-- ==== Sys2Proof/Word.lean ====
section
/-! DEFINITION. The index types of the part (cylinders, banks, profiles, slots, ports, pulse kinds), the tables indexed
by them, and the word types of frames. Numbering: spec/00_scope.md, "numbering". Times and durations are natural numbers of
microseconds (spec/00_scope.md, "time, current and speed"). -/

namespace Sys2Proof

/-- A byte of a frame. -/
abbrev Byte := BitVec 8

/-- Nine parameter bytes of a request, parameter byte 1 in bits 0 to 7 (R154, R158). -/
abbrev Params := BitVec 72

/-- Six data bytes of a reply, data byte 1 in bits 0 to 7 (R158, R159). -/
abbrev Data := BitVec 48

/-- A frame of twelve bytes in the order of the wire: byte 0 first and each byte most significant bit first (R144), so the
first bit on the wire is bit 95. -/
abbrev Wire := BitVec 96

/-- Cylinders 1 to 8. -/
inductive Cyl where
  | c1 | c2 | c3 | c4 | c5 | c6 | c7 | c8
deriving DecidableEq, Repr

/-- An index 0 to 3: of a bank, a profile or a staging slot. -/
inductive Four where
  | i0 | i1 | i2 | i3
deriving DecidableEq, Repr

/-- Banks 0 to 3. -/
abbrev Bank := Four

/-- Profiles 0 to 3. -/
abbrev ProfileIx := Four

/-- Staging slots and contribution positions 0 to 3. -/
abbrev SlotIx := Four

/-- The two master ports. -/
inductive Port where
  | a | b
deriving DecidableEq, Repr

/-- The other port of A is B, and of B is A. -/
def Port.other : Port → Port
  | .a => .b
  | .b => .a

/-- The four pulse kinds. Kind NONE is not a kind a pulse can have (spec/00_scope.md, "pulse kinds"). -/
inductive Kind where
  | main | pilot | after | post
deriving DecidableEq, Repr

/-- One value for each cylinder. -/
structure PerCyl (α : Type) where
  c1 : α
  c2 : α
  c3 : α
  c4 : α
  c5 : α
  c6 : α
  c7 : α
  c8 : α
deriving DecidableEq, Repr

/-- The same value at every index. -/
def PerCyl.fill {α : Type} (a : α) : PerCyl α := ⟨a, a, a, a, a, a, a, a⟩

/-- The value at one index. -/
def PerCyl.get {α : Type} (v : PerCyl α) : Cyl → α
  | .c1 => v.c1
  | .c2 => v.c2
  | .c3 => v.c3
  | .c4 => v.c4
  | .c5 => v.c5
  | .c6 => v.c6
  | .c7 => v.c7
  | .c8 => v.c8

/-- The table with one index replaced. -/
def PerCyl.set {α : Type} (v : PerCyl α) (i : Cyl) (a : α) : PerCyl α :=
  match i with
  | .c1 => { v with c1 := a }
  | .c2 => { v with c2 := a }
  | .c3 => { v with c3 := a }
  | .c4 => { v with c4 := a }
  | .c5 => { v with c5 := a }
  | .c6 => { v with c6 := a }
  | .c7 => { v with c7 := a }
  | .c8 => { v with c8 := a }

/-- One value for each index 0 to 3. -/
structure Quad (α : Type) where
  i0 : α
  i1 : α
  i2 : α
  i3 : α
deriving DecidableEq, Repr

/-- The same value at every index. -/
def Quad.fill {α : Type} (a : α) : Quad α := ⟨a, a, a, a⟩

/-- The value at one index. -/
def Quad.get {α : Type} (v : Quad α) : Four → α
  | .i0 => v.i0
  | .i1 => v.i1
  | .i2 => v.i2
  | .i3 => v.i3

/-- The table with one index replaced. -/
def Quad.set {α : Type} (v : Quad α) (i : Four) (a : α) : Quad α :=
  match i with
  | .i0 => { v with i0 := a }
  | .i1 => { v with i1 := a }
  | .i2 => { v with i2 := a }
  | .i3 => { v with i3 := a }

/-- One value for each port. -/
structure PerPort (α : Type) where
  a : α
  b : α
deriving DecidableEq, Repr

/-- The same value at every index. -/
def PerPort.fill {α : Type} (a : α) : PerPort α := ⟨a, a⟩

/-- The value at one index. -/
def PerPort.get {α : Type} (v : PerPort α) : Port → α
  | .a => v.a
  | .b => v.b

/-- The table with one index replaced. -/
def PerPort.set {α : Type} (v : PerPort α) (i : Port) (a : α) : PerPort α :=
  match i with
  | .a => { v with a := a }
  | .b => { v with b := a }

/-- One value for each pulse kind. -/
structure PerKind (α : Type) where
  main : α
  pilot : α
  after : α
  post : α
deriving DecidableEq, Repr

/-- The same value at every index. -/
def PerKind.fill {α : Type} (a : α) : PerKind α := ⟨a, a, a, a⟩

/-- The value at one index. -/
def PerKind.get {α : Type} (v : PerKind α) : Kind → α
  | .main => v.main
  | .pilot => v.pilot
  | .after => v.after
  | .post => v.post

/-- The table with one index replaced. -/
def PerKind.set {α : Type} (v : PerKind α) (i : Kind) (a : α) : PerKind α :=
  match i with
  | .main => { v with main := a }
  | .pilot => { v with pilot := a }
  | .after => { v with after := a }
  | .post => { v with post := a }

/-- All cylinders, ascending. -/
def Cyl.all : List Cyl := [.c1, .c2, .c3, .c4, .c5, .c6, .c7, .c8]

/-- All indexes 0 to 3, ascending. -/
def Four.all : List Four := [.i0, .i1, .i2, .i3]

/-- The number of a cylinder, 1 to 8. -/
def Cyl.num : Cyl → Nat
  | .c1 => 1 | .c2 => 2 | .c3 => 3 | .c4 => 4 | .c5 => 5 | .c6 => 6 | .c7 => 7 | .c8 => 8

/-- The number of an index, 0 to 3. -/
def Four.num : Four → Nat
  | .i0 => 0 | .i1 => 1 | .i2 => 2 | .i3 => 3

/-- The bit of a port in a frame or an entry: 0 for A, 1 for B. -/
def Port.num : Port → Nat
  | .a => 0 | .b => 1

/-- The four comparator inputs of one bank, true while asserted (R124). -/
structure Sense where
  /-- PKb: current at or above the peak level presented. -/
  pk : Bool
  /-- FLb: current below the hold floor. -/
  fl : Bool
  /-- TRb: current at or above the trip level. -/
  tr : Bool
  /-- ZRb: current at zero. -/
  zr : Bool
deriving DecidableEq, Repr

end Sys2Proof
end

