-- ==== Sys2Proof/Syntax.lean ====
section
/-! DEFINITION. The commands of the part: one constructor for each row of spec/opcode_table.json. Each row is one step,
whole and indivisible (spec/95_what_each_step_holds.md). The first operand `dt` of every command is the time in
microseconds that passes before the step is taken (log 2). The operands of a request row stand in the request that the
table engine takes, so the row carries none of them (log 16). -/

namespace Sys2Proof

/-- The commands of the JQ640, one for each row of the opcode table. -/
inductive Instr where
  /-- POWER_ON_RESET. Reset of the whole part (R6, R28, R82, R102, R123, R157, R174). -/
  | powerOnReset (dt : Nat)
  /-- TOOTH_ARRIVAL. A rising edge of CRANK_IN, with the level then on CAM_IN (R3, R11). -/
  | toothArrival (dt : Nat) (cam : Bool)
  /-- STALL_EXPIRY. The stall timer reaches the stall timeout (R17). -/
  | stallExpiry (dt : Nat)
  /-- ARMING_POINT. The arming point of `c` is delivered to the cycle unit (R22, R85). -/
  | armingPoint (dt : Nat) (c : Cyl)
  /-- ARMING_NOTICE. The table engine takes the arming notice of `c` (R54). -/
  | armingNotice (dt : Nat) (c : Cyl)
  /-- ARMING_ANSWER. The cycle unit takes the answer for `c` and makes the record (R86). -/
  | armingAnswer (dt : Nat) (c : Cyl)
  /-- START_POINT. The start point of the pulse at `pos` of the current record of `c` is delivered (R23, R90). -/
  | startPoint (dt : Nat) (c : Cyl) (pos : Nat)
  /-- SYNC_CHANGE. The cycle unit takes the oldest sync change handed to it (R96). -/
  | syncChange (dt : Nat)
  /-- SYNC_CHANGE_TABLE_ENGINE. The table engine takes the oldest sync change handed to it (R42). -/
  | syncChangeTableEngine (dt : Nat)
  /-- TOOTH_ARRIVAL_NOTICE. The cycle unit takes a tooth arrival notice (R26, R178). -/
  | toothArrivalNotice (dt : Nat)
  /-- DEADLINE_EXPIRY. The deadline of the DUE pulse at `pos` of the current record of `c` is reached (R93). -/
  | deadlineExpiry (dt : Nat) (c : Cyl) (pos : Nat)
  /-- DWELL_END. The dwell end time of `c` is reached (R92). -/
  | dwellEnd (dt : Nat) (c : Cyl)
  /-- GRANT_OFFER. The cycle unit takes the offer of bank `b` (R94). -/
  | grantOffer (dt : Nat) (b : Bank)
  /-- CYCLE_DRIVE_END. The cycle unit takes the drive end report of a scheduled drive on bank `b` (R95). -/
  | cycleDriveEnd (dt : Nat) (b : Bank)
  /-- CYCLE_RELEASE_COMPLETE. The cycle unit takes the release completion of a scheduled drive on bank `b` (R92). -/
  | cycleReleaseComplete (dt : Nat) (b : Bank)
  /-- ISOLATION_EVENT. The cycle unit takes the isolation event handed over by the slot of bank `b` (R97). -/
  | isolationEvent (dt : Nat) (b : Bank)
  /-- QUEUE_ENTRY. The bank arbiter takes the queue entry handed over by the lane of `c` (R107). -/
  | queueEntry (dt : Nat) (c : Cyl)
  /-- QUEUE_REMOVAL. The bank arbiter takes the removal handed over by the lane of `c` (R108). -/
  | queueRemoval (dt : Nat) (c : Cyl)
  /-- OFFER_ACCEPT. The bank arbiter takes the acceptance handed over by the lane of `c`; `x` are the comparator levels as BOOST is entered (R110, R125). -/
  | offerAccept (dt : Nat) (c : Cyl) (x : Sense)
  /-- OFFER_REFUSAL. The bank arbiter takes the refusal handed over by the lane of `c` (R111). -/
  | offerRefusal (dt : Nat) (c : Cyl)
  /-- BOOST_END. The bank arbiter takes the boost end on bank `b` (R103). -/
  | boostEnd (dt : Nat) (b : Bank)
  /-- BANK_DRIVE_END. The bank arbiter takes the drive end on bank `b` (R104). -/
  | bankDriveEnd (dt : Nat) (b : Bank)
  /-- BANK_RELEASE_COMPLETE. The bank arbiter takes the release completion on bank `b` (R105). -/
  | bankReleaseComplete (dt : Nat) (b : Bank)
  /-- RECHARGE_EXPIRY. The running recharge of bank `b` reaches its end time (R106). -/
  | rechargeExpiry (dt : Nat) (b : Bank)
  /-- PREEMPT_EXPIRY. The preempt timer of bank `b` reaches its expiry time (R115). -/
  | preemptExpiry (dt : Nat) (b : Bank)
  /-- BANK_CUT. The bank arbiter takes the cut handed over by the lane of `c` (R116). -/
  | bankCut (dt : Nat) (c : Cyl)
  /-- DRIVER_CUT. The driver sequencer takes the cut handed to the slot of bank `b` (R132). -/
  | driverCut (dt : Nat) (b : Bank) (x : Sense)
  /-- PEAK. PKb is asserted; `x` are the levels of the other comparators then (R126). -/
  | peak (dt : Nat) (b : Bank) (x : Sense)
  /-- HOLD_CHOP. PKb changes to level `pk` (R128). -/
  | holdChop (dt : Nat) (b : Bank) (pk : Bool)
  /-- FLOOR_ENTRY. FLb is asserted (R129). -/
  | floorEntry (dt : Nat) (b : Bank)
  /-- FLOOR_EXIT. FLb is released (R129). -/
  | floorExit (dt : Nat) (b : Bank)
  /-- HOLD_LOSS_EXPIRY. The hold-loss timer of bank `b` expires (R129). -/
  | holdLossExpiry (dt : Nat) (b : Bank) (x : Sense)
  /-- PEAK_LIMIT_EXPIRY. The peak-limit timer of bank `b` expires (R127). -/
  | peakLimitExpiry (dt : Nat) (b : Bank) (x : Sense)
  /-- TRIP. TRb is asserted; `x` are the levels of the other comparators then (R130). -/
  | trip (dt : Nat) (b : Bank) (x : Sense)
  /-- DURATION_EXPIRY. The duration timer of bank `b` expires (R131). -/
  | durationExpiry (dt : Nat) (b : Bank) (x : Sense)
  /-- ZERO. ZRb is asserted (R134). -/
  | zero (dt : Nat) (b : Bank)
  /-- RELEASE_LIMIT_EXPIRY. The release-limit timer of bank `b` expires (R134). -/
  | releaseLimitExpiry (dt : Nat) (b : Bank)
  /-- SERVICE_DRIVE_END. The service function takes the drive end report of bank `b` (R177). -/
  | serviceDriveEnd (dt : Nat) (b : Bank)
  /-- SERVICE_RELEASE_COMPLETE. The service function takes the release completion of bank `b` (R179). -/
  | serviceReleaseComplete (dt : Nat) (b : Bank)
  /-- TRANSACTION_BEGIN. CS_N of port `p` falls (R143). -/
  | transactionBegin (dt : Nat) (p : Port)
  /-- TRANSACTION_COMPLETE. The last bit of a frame is sampled on port `p`; `rx` are the 96 bits received, in wire order (R144, R146). -/
  | transactionComplete (dt : Nat) (p : Port) (rx : Wire)
  /-- SHORT_TRANSACTION. CS_N of port `p` rises before completion, after `bits` were received (R147). -/
  | shortTransaction (dt : Nat) (p : Port) (bits : List Bool)
  /-- NONE. A transaction of port `p` completes with a frame of code NONE; `rest` are bytes 1 to 11 in wire order (R146). -/
  | noneFrame (dt : Nat) (p : Port) (rest : BitVec 88)
  /-- PORT_RESET. A transaction of port `p` completes with a frame of code PORT_RESET; `rest` are bytes 1 to 11 in wire order (R146, R155). -/
  | portReset (dt : Nat) (p : Port) (rest : BitVec 88)
  /-- UNKNOWN_REQUEST. The table engine takes the next request, being a code that names no request (R154, R154). -/
  | unknownRequest (dt : Nat)
  /-- PLAN_SET_ENGINE. The table engine takes the next request, being PLAN_SET_ENGINE (R30, R154). -/
  | planSetEngine (dt : Nat)
  /-- PLAN_SET_CYLINDER. The table engine takes the next request, being PLAN_SET_CYLINDER (R31, R154). -/
  | planSetCylinder (dt : Nat)
  /-- PLAN_SET_TIMING. The table engine takes the next request, being PLAN_SET_TIMING (R32, R154). -/
  | planSetTiming (dt : Nat)
  /-- PLAN_SET_KIND. The table engine takes the next request, being PLAN_SET_KIND (R33, R154). -/
  | planSetKind (dt : Nat)
  /-- PLAN_SET_BANK. The table engine takes the next request, being PLAN_SET_BANK (R34, R154). -/
  | planSetBank (dt : Nat)
  /-- PLAN_SET_PROFILE. The table engine takes the next request, being PLAN_SET_PROFILE (R35, R154). -/
  | planSetProfile (dt : Nat)
  /-- PLAN_SET_LIMITS. The table engine takes the next request, being PLAN_SET_LIMITS (R36, R154). -/
  | planSetLimits (dt : Nat)
  /-- PLAN_READ. The table engine takes the next request, being PLAN_READ (R37, R154). -/
  | planRead (dt : Nat)
  /-- PLAN_CLOSE. The table engine takes the next request, being PLAN_CLOSE (R38, R154). -/
  | planClose (dt : Nat)
  /-- PLAN_OPEN. The table engine takes the next request, being PLAN_OPEN (R40, R154). -/
  | planOpen (dt : Nat)
  /-- STAGE_PULSE. The table engine takes the next request, being STAGE_PULSE (R45, R154). -/
  | stagePulse (dt : Nat)
  /-- CLEAR_SLOT. The table engine takes the next request, being CLEAR_SLOT (R47, R154). -/
  | clearSlot (dt : Nat)
  /-- CLEAR_STAGE. The table engine takes the next request, being CLEAR_STAGE (R49, R154). -/
  | clearStage (dt : Nat)
  /-- PUBLISH. The table engine takes the next request, being PUBLISH (R52, R154). -/
  | publish (dt : Nat)
  /-- WITHDRAW. The table engine takes the next request, being WITHDRAW (R53, R154). -/
  | withdraw (dt : Nat)
  /-- CUTOUT_SET. The table engine takes the next request, being CUTOUT_SET (R89, R154). -/
  | cutoutSet (dt : Nat)
  /-- REINSTATE. The table engine takes the next request, being REINSTATE (R140, R154). -/
  | reinstate (dt : Nat)
  /-- SERVICE_PULSE. The table engine takes the next request, being SERVICE_PULSE; `x` are the comparator levels of its bank if its drive starts (R175, R154). -/
  | servicePulse (dt : Nat) (x : Sense)
  /-- SERVICE_READ. The table engine takes the next request, being SERVICE_READ (R180, R154). -/
  | serviceRead (dt : Nat)
  /-- PORT_SETUP. The table engine takes the next request, being PORT_SETUP (R152, R154). -/
  | portSetup (dt : Nat)
  /-- FLAGS_READ. The table engine takes the next request, being FLAGS_READ (R163, R154). -/
  | flagsRead (dt : Nat)
  /-- FLAGS_CLEAR. The table engine takes the next request, being FLAGS_CLEAR (R164, R154). -/
  | flagsClear (dt : Nat)
  /-- CURSOR_SET. The table engine takes the next request, being CURSOR_SET (R167, R154). -/
  | cursorSet (dt : Nat)
  /-- CURSOR_READ. The table engine takes the next request, being CURSOR_READ (R168, R154). -/
  | cursorRead (dt : Nat)
  /-- ANGLE_READ. The table engine takes the next request, being ANGLE_READ (R173, R154). -/
  | angleRead (dt : Nat)
deriving DecidableEq, Repr

/-- The time that passes before the step of a command is taken. -/
def Instr.delay : Instr → Nat
  | .powerOnReset dt => dt
  | .toothArrival dt _ => dt
  | .stallExpiry dt => dt
  | .armingPoint dt _ => dt
  | .armingNotice dt _ => dt
  | .armingAnswer dt _ => dt
  | .startPoint dt _ _ => dt
  | .syncChange dt => dt
  | .syncChangeTableEngine dt => dt
  | .toothArrivalNotice dt => dt
  | .deadlineExpiry dt _ _ => dt
  | .dwellEnd dt _ => dt
  | .grantOffer dt _ => dt
  | .cycleDriveEnd dt _ => dt
  | .cycleReleaseComplete dt _ => dt
  | .isolationEvent dt _ => dt
  | .queueEntry dt _ => dt
  | .queueRemoval dt _ => dt
  | .offerAccept dt _ _ => dt
  | .offerRefusal dt _ => dt
  | .boostEnd dt _ => dt
  | .bankDriveEnd dt _ => dt
  | .bankReleaseComplete dt _ => dt
  | .rechargeExpiry dt _ => dt
  | .preemptExpiry dt _ => dt
  | .bankCut dt _ => dt
  | .driverCut dt _ _ => dt
  | .peak dt _ _ => dt
  | .holdChop dt _ _ => dt
  | .floorEntry dt _ => dt
  | .floorExit dt _ => dt
  | .holdLossExpiry dt _ _ => dt
  | .peakLimitExpiry dt _ _ => dt
  | .trip dt _ _ => dt
  | .durationExpiry dt _ _ => dt
  | .zero dt _ => dt
  | .releaseLimitExpiry dt _ => dt
  | .serviceDriveEnd dt _ => dt
  | .serviceReleaseComplete dt _ => dt
  | .transactionBegin dt _ => dt
  | .transactionComplete dt _ _ => dt
  | .shortTransaction dt _ _ => dt
  | .noneFrame dt _ _ => dt
  | .portReset dt _ _ => dt
  | .unknownRequest dt => dt
  | .planSetEngine dt => dt
  | .planSetCylinder dt => dt
  | .planSetTiming dt => dt
  | .planSetKind dt => dt
  | .planSetBank dt => dt
  | .planSetProfile dt => dt
  | .planSetLimits dt => dt
  | .planRead dt => dt
  | .planClose dt => dt
  | .planOpen dt => dt
  | .stagePulse dt => dt
  | .clearSlot dt => dt
  | .clearStage dt => dt
  | .publish dt => dt
  | .withdraw dt => dt
  | .cutoutSet dt => dt
  | .reinstate dt => dt
  | .servicePulse dt _ => dt
  | .serviceRead dt => dt
  | .portSetup dt => dt
  | .flagsRead dt => dt
  | .flagsClear dt => dt
  | .cursorSet dt => dt
  | .cursorRead dt => dt
  | .angleRead dt => dt

end Sys2Proof
end

