-- ==== Sys2Proof/Decode.lean ====
section
/-! DEFINITION. The decoder of table words. The rows of spec/opcode_table.json give no bits: the part takes its requests
from frames (R146, R154) and its other steps from events, so no word spells a command. -/

namespace Sys2Proof

/-- The command that a word spells by the table's bits: no row gives bits, so none. -/
def decodeTableWord (_nbits _w : Nat) : Option Instr := none

end Sys2Proof
end

