-- ==== Sys2Proof/Config.lean ====
section
/-! DEFINITION. The values the spec leaves open. Each is an opaque constant: nothing can be proved of its value. -/

namespace Sys2Proof

/-- The quotient by a period of 0 µs, as a function of the numerator. R19, R21 and R94 divide by the last normal period and
do not say what results when two edges carry the same µs. A free value (log 7). -/
opaque Config.quotientByZero : Nat → Nat

/-- The speed that a push leaves while the wheel geometry is unset, as a function of the period. R21 computes the speed from
the tooth spacing, which does not exist then, and states no result. A free value (log 8). -/
opaque Config.speedWithoutGeometry : Nat → Nat

end Sys2Proof
end

