-- ==== Sys2Proof/Machine/State.lean ====
section
/-! DEFINITION. The state of the part, block by block, as plain data, and the state after power-on reset. Field comments
cite the rule of spec/ that names the field. Times, durations and the end times of timers are in µs. -/

namespace Sys2Proof.Machine

/-! ## Tracker (spec/01_crank_and_cam_tracking.md) -/

/-- The six sync states (section 1.3). -/
inductive SyncState where
  | stopped | seeking | candidate | crankSync | fullSync | coasting
deriving DecidableEq, Repr

/-- The tracker's working copy of the plan fields it needs (R1). -/
structure WorkingCopy where
  count : Nat
  teeth : Nat
  missing : Nat
  gapRatio : Nat
  cam0 : Bool
  tdc : PerCyl Nat
  advance : Nat
  coastLimit : Nat
  phaseMissLimit : Nat
  stallMs : Nat
deriving DecidableEq, Repr

/-- What the tracker hands over at a change of sync state (R25). -/
structure SyncNotice where
  old : SyncState
  new : SyncState
  phaseBefore : Bool
  phaseAfter : Bool
deriving DecidableEq, Repr

/-- A jump of the engine angle at a tooth arrival, from the position held just before it to the tooth's position (R24). -/
structure Jump where
  start : Nat
  stop : Nat
deriving DecidableEq, Repr

/-- Which points the tracker has delivered and which it still watches, implied by R2, R22 and R24 (log 10). A position is
an engine angle plus 11,520 for each passing of angle 0 since phase was gained. -/
structure PointMarks where
  /-- Passings of angle 0 since phase was gained. -/
  laps : Nat
  /-- Position at which phase was gained. -/
  gainPos : Nat
  /-- Points at or below this position are not delivered. -/
  watchFrom : Nat
  /-- The jumps whose points may still be owed to the cycle unit, the last one first. -/
  jumps : List Jump
  /-- Position of the last arming point delivered, by cylinder. -/
  armedAt : PerCyl (Option Nat)
  /-- Arming points below this position are withheld (R2), by cylinder. -/
  withheldTo : PerCyl Nat
deriving DecidableEq, Repr

/-- The tracker's state (R6 and the table of section 1.3). -/
structure Tracker where
  sync : SyncState
  /-- Normal periods in µs, newest first (R4). -/
  window : List Nat
  lastTooth : Option Nat
  candidateCount : Nat
  tooth : Nat
  /-- The revolution, false for 0 and true for 1 (R18). -/
  rev : Bool
  phaseHeld : Bool
  prevCam : Option Bool
  missedGaps : Nat
  phaseMisses : Nat
  cycles : BitVec 16
  phaseGained : Bool
  stallOn : Bool
  speed : Nat
  copy : Option WorkingCopy
  marks : PointMarks
deriving DecidableEq, Repr

/-! ## Engine plan (spec/02_the_engine_plan.md) -/

/-- The engine group (R30). -/
structure EnginePlan where
  count : Nat
  teeth : Nat
  missing : Nat
  gapRatio : Nat
  cam0 : Bool
deriving DecidableEq, Repr

/-- The group of one cylinder (R31). -/
structure CylinderPlan where
  tdc : Nat
  bank : Bank
  endLimit : Nat
deriving DecidableEq, Repr

/-- The timing group (R32). -/
structure TimingPlan where
  advance : Nat
  minSeparation : Nat
  minWidth : Nat
  minDwell : Nat
deriving DecidableEq, Repr

/-- The group of one pulse kind (R33). -/
structure KindPlan where
  tolerance : Nat
  tiePort : Port
deriving DecidableEq, Repr

/-- The group of one bank (R34). -/
structure BankPlan where
  recharge : Nat
  preemptDelay : Nat
deriving DecidableEq, Repr

/-- The group of one profile, currents in 0.1 A (R35). -/
structure ProfilePlan where
  peak : Nat
  peakLimit : Nat
  minPeak : Nat
  hold : Nat
  holdLoss : Nat
  releaseLimit : Nat
  trip : Nat
deriving DecidableEq, Repr

/-- The limits group (R36). -/
structure LimitsPlan where
  coast : Nat
  phaseMiss : Nat
  stallMs : Nat
  isolation : Nat
  freshness : PerPort Nat
deriving DecidableEq, Repr

/-- A group instance with its set mark (R28). -/
structure Marked (α : Type) where
  isSet : Bool
  val : α
deriving DecidableEq, Repr

/-- The plan record (R28). -/
structure Plan where
  closed : Bool
  votes : PerPort Bool
  engine : Marked EnginePlan
  cylinder : PerCyl (Marked CylinderPlan)
  timing : Marked TimingPlan
  kind : PerKind (Marked KindPlan)
  bank : Quad (Marked BankPlan)
  profile : Quad (Marked ProfilePlan)
  limits : Marked LimitsPlan
deriving DecidableEq, Repr

/-! ## Firing tables (spec/03, spec/04) -/

/-- A staged or published pulse (R44). -/
structure Pulse where
  kind : Kind
  profile : ProfileIx
  start : Int
  duration : Nat
deriving DecidableEq, Repr

/-- The reasons of an exclusion (R67). -/
inductive Exclusion where
  | spacing | secondMain | limit
deriving DecidableEq, Repr

/-- The merge's verdict on a published pulse (R50). -/
inductive Verdict where
  | accepted
  | excluded (why : Exclusion)
deriving DecidableEq, Repr

/-- The states of a contribution (R51). -/
inductive ContribState where
  | absent | live | expired | withdrawn
deriving DecidableEq, Repr

/-- A port's published contribution for one cylinder (R50). -/
structure Contribution where
  state : ContribState
  pulses : Quad (Option Pulse)
  verdicts : Quad (Option Verdict)
  age : Nat
deriving DecidableEq, Repr

/-- A merged pulse: the pulse and its origin (R61). -/
structure Merged where
  pulse : Pulse
  port : Port
  slot : SlotIx
deriving DecidableEq, Repr

/-- A cylinder's active list with its revision (R61, R62). -/
structure ActiveList where
  entries : List Merged
  revision : BitVec 8
deriving DecidableEq, Repr

/-- The table engine's firing tables. -/
structure Tables where
  staging : PerPort (PerCyl (Quad (Option Pulse)))
  contributions : PerPort (PerCyl Contribution)
  active : PerCyl ActiveList
  cutOut : PerPort (BitVec 8)
deriving DecidableEq, Repr

/-! ## Faults of the driver sequencer (spec/07) -/

/-- The five fault kinds (section 7.5). -/
inductive FaultKind where
  | overcurrent | openPeak | holdLoss | earlyPeak | releaseSlow
deriving DecidableEq, Repr

/-- The three fault kinds that end a drive (R133). -/
inductive EndFault where
  | overcurrent | openPeak | holdLoss
deriving DecidableEq, Repr

/-- Why a drive ended (R133). -/
inductive Cause where
  | time
  | cut
  | fault (kind : EndFault)
deriving DecidableEq, Repr

/-! ## Cycle unit (spec/05) -/

/-- What holds a DUE pulse back (R83). -/
inductive Blocker where
  | cylinder | bank
deriving DecidableEq, Repr

/-- The reasons of a drop (R98). -/
inductive DropReason where
  | overrun | syncLoss | stop | endLimit
  | tolerance (blocker : Blocker)
  | isolated
deriving DecidableEq, Repr

/-- The state of an armed pulse, or its outcome once reached (R83, R98). -/
inductive PulseState where
  | pending
  | due (since deadline : Nat) (blocker : Blocker)
  | energized (granted : Nat)
  | done
  | cut
  | faulted (kind : EndFault)
  | dropped (reason : DropReason)
deriving DecidableEq, Repr

/-- A pulse of an armed record (R83). Its duration is the one now held, shortened by a clip. -/
structure ArmedPulse where
  merged : Merged
  state : PulseState
  late : Bool
  clipped : Bool
  earlyPeak : Bool
  energized : Nat
  lateness : Nat
deriving DecidableEq, Repr

/-- An armed record (R83), with the arming that armed it: its position (log 10) and the arming advance then in force,
from which R23 and R94 measure. -/
structure Record where
  cycle : BitVec 16
  revision : BitVec 8
  cutOut : Bool
  isolated : Bool
  pulses : List ArmedPulse
  armPos : Nat
  advance : Nat
deriving DecidableEq, Repr

/-- The table engine's answer to an arming notice (R54 step 1). -/
structure ArmingAnswer where
  entries : List Merged
  revision : BitVec 8
  cutOut : Bool
deriving DecidableEq, Repr

/-- An arming between the delivery of its arming point and the taking of the answer (R86). -/
structure Arming where
  cycle : BitVec 16
  pos : Nat
  advance : Nat
  /-- The reason of a sync change losing phase that the cycle unit took meanwhile. -/
  loss : Option DropReason
  answer : Option ArmingAnswer
deriving DecidableEq, Repr

/-- The injector state of a cylinder (R92). -/
inductive Injector where
  | ready
  | driving
  | releasing
  | dwell (until_ : Nat)
deriving DecidableEq, Repr

/-- A scheduled pulse as holders, entries and cuts name it (R102, R107, R116). Its class rank follows from its kind. -/
structure PulseId where
  cyl : Cyl
  cycle : BitVec 16
  pos : Nat
  kind : Kind
deriving DecidableEq, Repr

/-- A holder of a bank (R102). -/
inductive Holder where
  | scheduled (id : PulseId)
  | service (cyl : Cyl)
deriving DecidableEq, Repr

/-- An entry of a wait queue (R107). -/
structure QueueEntry where
  id : PulseId
  due : Nat
deriving DecidableEq, Repr

/-- What a lane hands to the bank arbiter (R90, R94, R108, R116). -/
inductive BankMessage where
  /-- An entry for the wait queue; `turn` is greater than that of every entry handed over before it and still on its way
  (R107). -/
  | entry (bank : Bank) (e : QueueEntry) (turn : Nat)
  | removal (bank : Bank) (id : PulseId)
  | accept (bank : Bank) (id : PulseId) (profile : ProfileIx) (duration : Nat)
  | refuse (bank : Bank) (id : PulseId)
  | cut (bank : Bank) (holder : Holder)
deriving DecidableEq, Repr

/-- A cylinder lane (R82), with the arming in course and the messages not yet taken by the bank arbiter (log 1). -/
structure Lane where
  current : Option Record
  superseded : Option Record
  /-- The last-outcome record; none is the all-zero record. -/
  last : Option Record
  injector : Injector
  arming : Option Arming
  outbox : List BankMessage
deriving DecidableEq, Repr

/-! ## Bank arbiter (spec/06) -/

/-- The bank states (R102). -/
inductive BankState where
  | idle | held | releasing | recovering
deriving DecidableEq, Repr

/-- The recharge of a bank (R102). -/
inductive Recharge where
  | done
  | waiting
  | running (until_ : Nat)
deriving DecidableEq, Repr

/-- A running preempt timer (R102). -/
structure PreemptTimer where
  expiry : Nat
  starter : QueueEntry
deriving DecidableEq, Repr

/-- The record of one bank (R102). -/
structure BankRecord where
  state : BankState
  holder : Option Holder
  recharge : Recharge
  queue : List QueueEntry
  offer : Option QueueEntry
  preempt : Option PreemptTimer
deriving DecidableEq, Repr

/-! ## Driver sequencer (spec/07) -/

/-- The phases of a drive slot (R123). -/
inductive Phase where
  | off | boost | hold | release
deriving DecidableEq, Repr

/-- The drive of a slot (R123). The profile's fields are those read at its start. -/
structure Drive where
  cyl : Cyl
  profileIx : ProfileIx
  profile : ProfilePlan
  duration : Nat
  holder : Holder
deriving DecidableEq, Repr

/-- The levels presented on an IREF output, in 0.1 A (R124). -/
structure Iref where
  peak : Nat
  floor : Nat
  trip : Nat
deriving DecidableEq, Repr

/-- The drive slot of one bank with its gate and reference outputs (R123, R124). -/
structure DriveSlot where
  phase : Phase
  drive : Option Drive
  start : Nat
  cause : Option Cause
  /-- The fault kinds found in this drive, each at most once, the last found first. -/
  faults : List FaultKind
  earlyPeak : Bool
  durationTimer : Option Nat
  peakLimitTimer : Option Nat
  holdLossTimer : Option Nat
  releaseTimer : Option Nat
  boostGate : Bool
  battGate : Bool
  iref : Iref
deriving DecidableEq, Repr

/-- What a slot reports to the bank arbiter (R103, R104, R105). -/
inductive BankReport where
  /-- The boost phase ended at time `moment` (R103). -/
  | boostEnd (moment : Nat)
  | driveEnd
  | releaseComplete
deriving DecidableEq, Repr

/-- What a slot reports to the cycle unit or its service function (R95, R135, R138, R177, R179). -/
inductive CycleReport where
  | driveEnd (holder : Holder) (cause : Cause) (earlyPeak : Bool) (started ended : Nat)
  /-- The release of the drive of `holder` is complete since time `moment` (R92, R135). -/
  | release (holder : Holder) (lastFault : Option FaultKind) (moment : Nat)
  | isolation (cyl : Cyl)
deriving DecidableEq, Repr

/-- What is on its way from and to the slot of one bank (log 1). -/
structure SlotMail where
  toBank : List BankReport
  toCycle : List CycleReport
  cuts : List Holder
deriving DecidableEq, Repr

/-- The fault state of a cylinder: consecutive count, isolation mark and the rest of the fault record (R137 to R139). -/
structure CylinderFaults where
  count : Nat
  isolated : Bool
  lastKind : Option FaultKind
  lastCycle : BitVec 16
  lastPulse : Option Kind
deriving DecidableEq, Repr

/-! ## Service function (spec/10) -/

/-- The phase of a service pulse in progress (R174). -/
inductive ServicePhase where
  | driving | releasing
deriving DecidableEq, Repr

/-- The drive end result of a service pulse (R174). -/
structure ServiceResult where
  cause : Cause
  energized : Nat
deriving DecidableEq, Repr

/-- A service pulse in progress (R174). -/
structure ServicePulse where
  phase : ServicePhase
  port : Port
  cyl : Cyl
  profile : ProfileIx
  duration : Nat
  result : Option ServiceResult
deriving DecidableEq, Repr

/-- The outcome of a service pulse (R174). -/
inductive ServiceOutcome where
  | none | done | cut | faulted
deriving DecidableEq, Repr

/-- The service outcome record (R174); no cylinder is cylinder 0. -/
structure ServiceRecord where
  cyl : Option Cyl
  outcome : ServiceOutcome
  fault : Option FaultKind
  energized : Nat
deriving DecidableEq, Repr

/-- The service function (R174). -/
structure ServiceFunction where
  inProgress : Option ServicePulse
  record : ServiceRecord
deriving DecidableEq, Repr

/-! ## Master ports (spec/08, spec/09) -/

/-- A received request (R146). -/
structure Request where
  code : Byte
  tag : BitVec 4
  params : Params
deriving DecidableEq, Repr

/-- The results of a request (R154). -/
inductive Result where
  | ok | planOpen | planClosed | range | state | busy | unknown | planInvalid
deriving DecidableEq, Repr

/-- A reply (R149). -/
structure Reply where
  code : Byte
  tag : BitVec 4
  result : Result
  data : Data
deriving DecidableEq, Repr

/-- The table views (R167). -/
inductive View where
  | stage | pubA | pubB | active | armed | outcome | fault
deriving DecidableEq, Repr

/-- A port's cursor (R167). -/
structure Cursor where
  view : View
  cyl : Cyl
  index : Nat
  step : Bool
deriving DecidableEq, Repr

/-- A port's SPI transaction (R143, R144, R146). -/
inductive Transaction where
  /-- CS_N is high. -/
  | idle
  /-- CS_N has fallen; the frame sent is fixed; it carries the head of the reply queue or the idle reply. -/
  | active (frame : Wire) (queued : Bool)
  /-- All twelve bytes are exchanged and CS_N has not fallen afresh; SDO shifts out 0. -/
  | complete
deriving DecidableEq, Repr

/-- The state of one master port (R157). -/
structure PortState where
  commands : List Request
  replies : List Reply
  flags : BitVec 16
  mask : BitVec 16
  halt : Nat
  resume : Nat
  /-- HOLD_N asserted (R150). -/
  hold : Bool
  /-- ATTN_N asserted (R165). -/
  attn : Bool
  cursor : Cursor
  txn : Transaction
deriving DecidableEq, Repr

/-! ## The whole part -/

/-- The state of the part and the queue of commands that wait. -/
structure State where
  /-- The time in µs (log 3). -/
  now : Nat
  tracker : Tracker
  /-- Sync changes handed to the cycle unit and not yet taken, oldest first (R25). -/
  syncToCycle : List SyncNotice
  /-- Sync changes handed to the table engine and not yet taken, oldest first (R25). -/
  syncToTable : List SyncNotice
  /-- Tooth arrivals handed to the cycle unit and not yet taken (R26). -/
  toothNotices : Nat
  plan : Plan
  tables : Tables
  lanes : PerCyl Lane
  service : ServiceFunction
  banks : Quad BankRecord
  slots : Quad DriveSlot
  mail : Quad SlotMail
  faults : PerCyl CylinderFaults
  /-- LOW_G1 to LOW_G8 (R123). -/
  lowGates : PerCyl Bool
  /-- The comparator inputs of each bank as last seen (R124, log 4, log 5). -/
  sense : Quad Sense
  /-- The level of CAM_IN as last seen (R11, log 4). -/
  camIn : Bool
  ports : PerPort PortState
  /-- The port last taken from (R153). -/
  lastTaken : Port
  /-- Commands that wait, first in, first out. -/
  pending : List Instr
deriving DecidableEq, Repr

/-- The reasons for which the machine stops with a fault: none. No rule of the spec stops the part; its driver faults are
events of the part (R136). Safe: there is nothing to raise. -/
inductive Fault where
deriving DecidableEq, Repr

/-- The reasons for which a command has no meaning. -/
inductive Refusal where
  /-- Raised by an arm of `exec` for a command that has no meaning yet; no arm raises it. Safe: the machine stops. -/
  | notModelled (mnemonic : String)
deriving DecidableEq, Repr

/-! ## Reset values -/

/-- No points delivered, none watched (R6, log 10). -/
def PointMarks.reset : PointMarks :=
  { laps := 0, gainPos := 0, watchFrom := 0, jumps := [], armedAt := .fill none, withheldTo := .fill 0 }

/-- The tracker after power-on reset (R6, R21). -/
def Tracker.reset : Tracker :=
  { sync := .stopped, window := [], lastTooth := none, candidateCount := 0, tooth := 0, rev := false, phaseHeld := false,
    prevCam := none, missedGaps := 0, phaseMisses := 0, cycles := 0, phaseGained := false, stallOn := false, speed := 0,
    copy := none, marks := .reset }

/-- The plan after power-on reset: OPEN, every instance unset and 0, no votes (R28). -/
def Plan.reset : Plan :=
  { closed := false
    votes := .fill false
    engine := ⟨false, ⟨0, 0, 0, 0, false⟩⟩
    cylinder := .fill ⟨false, ⟨0, .i0, 0⟩⟩
    timing := ⟨false, ⟨0, 0, 0, 0⟩⟩
    kind := .fill ⟨false, ⟨0, .a⟩⟩
    bank := .fill ⟨false, ⟨0, 0⟩⟩
    profile := .fill ⟨false, ⟨0, 0, 0, 0, 0, 0, 0⟩⟩
    limits := ⟨false, ⟨0, 0, 0, 0, .fill 0⟩⟩ }

/-- An ABSENT contribution (R50). -/
def Contribution.absent : Contribution :=
  { state := .absent, pulses := .fill none, verdicts := .fill none, age := 0 }

/-- The firing tables after power-on reset (R44, R50, R61, R62, R89). -/
def Tables.reset : Tables :=
  { staging := .fill (.fill (.fill none))
    contributions := .fill (.fill .absent)
    active := .fill ⟨[], 0⟩
    cutOut := .fill 0 }

/-- A lane after power-on reset (R82). -/
def Lane.reset : Lane :=
  { current := none, superseded := none, last := none, injector := .ready, arming := none, outbox := [] }

/-- The service function after power-on reset (R174). -/
def ServiceFunction.reset : ServiceFunction :=
  { inProgress := none, record := ⟨none, .none, none, 0⟩ }

/-- A bank record after power-on reset (R102). -/
def BankRecord.reset : BankRecord :=
  { state := .idle, holder := none, recharge := .done, queue := [], offer := none, preempt := none }

/-- A drive slot after power-on reset (R123). -/
def DriveSlot.reset : DriveSlot :=
  { phase := .off, drive := none, start := 0, cause := none, faults := [], earlyPeak := false, durationTimer := none,
    peakLimitTimer := none, holdLossTimer := none, releaseTimer := none, boostGate := false, battGate := false,
    iref := ⟨0, 0, 0⟩ }

/-- A cylinder's fault state after power-on reset (R137, R138, R139). -/
def CylinderFaults.reset : CylinderFaults :=
  { count := 0, isolated := false, lastKind := none, lastCycle := 0, lastPulse := none }

/-- The cursor after power-on reset and after PORT_RESET (R155, R157). -/
def Cursor.reset : Cursor :=
  { view := .stage, cyl := .c1, index := 0, step := false }

/-- A port after power-on reset (R157). -/
def PortState.reset : PortState :=
  { commands := [], replies := [], flags := 0, mask := BitVec.allOnes 16, halt := 12, resume := 4, hold := false,
    attn := false, cursor := .reset, txn := .idle }

/-- The part right after power-on reset, at time 0, with no command waiting. -/
def State.reset : State :=
  { now := 0
    tracker := .reset
    syncToCycle := []
    syncToTable := []
    toothNotices := 0
    plan := .reset
    tables := .reset
    lanes := .fill .reset
    service := .reset
    banks := .fill .reset
    slots := .fill .reset
    mail := .fill ⟨[], [], []⟩
    faults := .fill .reset
    lowGates := .fill false
    sense := .fill ⟨false, false, false, false⟩
    camIn := false
    ports := .fill .reset
    lastTaken := .b
    pending := [] }

end Sys2Proof.Machine
end

