-- ==== Sys2Proof/Machine/Ops.lean ====
section
/-! DEFINITION. The named operations over State: reading and writing one part of it, packing of bits, exact division with
the free value of log 7, and what every block shares. -/

namespace Sys2Proof.Machine

/-! ## Time -/

/-- The time that passes before a step (log 2). -/
def State.advance (s : State) (dt : Nat) : State := { s with now := s.now + dt }

/-! ## Reading and writing one part -/

def State.lane (s : State) (c : Cyl) : Lane := s.lanes.get c

def State.setLane (s : State) (c : Cyl) (l : Lane) : State := { s with lanes := s.lanes.set c l }

def State.bank (s : State) (b : Bank) : BankRecord := s.banks.get b

def State.setBank (s : State) (b : Bank) (r : BankRecord) : State := { s with banks := s.banks.set b r }

def State.slot (s : State) (b : Bank) : DriveSlot := s.slots.get b

def State.setSlot (s : State) (b : Bank) (d : DriveSlot) : State := { s with slots := s.slots.set b d }

def State.mailOf (s : State) (b : Bank) : SlotMail := s.mail.get b

def State.setMail (s : State) (b : Bank) (m : SlotMail) : State := { s with mail := s.mail.set b m }

def State.port (s : State) (p : Port) : PortState := s.ports.get p

def State.setPort (s : State) (p : Port) (q : PortState) : State := { s with ports := s.ports.set p q }

def State.faultsOf (s : State) (c : Cyl) : CylinderFaults := s.faults.get c

def State.setFaults (s : State) (c : Cyl) (f : CylinderFaults) : State := { s with faults := s.faults.set c f }

def State.setLowGate (s : State) (c : Cyl) (on : Bool) : State := { s with lowGates := s.lowGates.set c on }

def State.senseOf (s : State) (b : Bank) : Sense := s.sense.get b

def State.setSense (s : State) (b : Bank) (x : Sense) : State := { s with sense := s.sense.set b x }

def State.setTracker (s : State) (t : Tracker) : State := { s with tracker := t }

def State.setPlan (s : State) (p : Plan) : State := { s with plan := p }

def State.setTables (s : State) (t : Tables) : State := { s with tables := t }

def State.setService (s : State) (f : ServiceFunction) : State := { s with service := f }

/-- The staging slots of port `p` for cylinder `c` (R44). -/
def Tables.staged (t : Tables) (p : Port) (c : Cyl) : Quad (Option Pulse) := (t.staging.get p).get c

def Tables.setStaged (t : Tables) (p : Port) (c : Cyl) (q : Quad (Option Pulse)) : Tables :=
  { t with staging := t.staging.set p ((t.staging.get p).set c q) }

/-- The contribution of port `p` for cylinder `c` (R50). -/
def Tables.contribution (t : Tables) (p : Port) (c : Cyl) : Contribution := (t.contributions.get p).get c

def Tables.setContribution (t : Tables) (p : Port) (c : Cyl) (k : Contribution) : Tables :=
  { t with contributions := t.contributions.set p ((t.contributions.get p).set c k) }

def Tables.setActive (t : Tables) (c : Cyl) (l : ActiveList) : Tables := { t with active := t.active.set c l }

/-! ## The plan's values -/

/-- The plan's cylinder count (R30); 0 while the engine group is unset. -/
def Plan.count (p : Plan) : Nat := p.engine.val.count

/-- The bank that the plan's cylinder group names for `c` (R31). -/
def Plan.bankOf (p : Plan) (c : Cyl) : Bank := (p.cylinder.get c).val.bank

/-- The end limit of `c` (R31). -/
def Plan.endLimit (p : Plan) (c : Cyl) : Nat := (p.cylinder.get c).val.endLimit

/-- The start tolerance of a kind (R33). -/
def Plan.tolerance (p : Plan) (k : Kind) : Nat := (p.kind.get k).val.tolerance

/-- The class rank of a kind, from 4 (MAIN) to 1 (POST) (spec/00_scope.md, "pulse kinds"). -/
def kindRank : Kind → Nat
  | .main => 4
  | .pilot => 3
  | .after => 2
  | .post => 1

/-! ## Messages between blocks (log 1) -/

/-- A lane hands messages to the bank arbiter. -/
def Lane.send (l : Lane) (ms : List BankMessage) : Lane := { l with outbox := l.outbox ++ ms }

/-- The bank arbiter has taken the oldest message of the lane of `c`. -/
def State.popOutbox (s : State) (c : Cyl) : State :=
  s.setLane c { s.lane c with outbox := (s.lane c).outbox.tail }

/-- The slot of bank `b` reports to the bank arbiter. -/
def State.reportBank (s : State) (b : Bank) (r : BankReport) : State :=
  s.setMail b { s.mailOf b with toBank := (s.mailOf b).toBank ++ [r] }

/-- The bank arbiter has taken the oldest report of the slot of bank `b`. -/
def State.popBankReport (s : State) (b : Bank) : State :=
  s.setMail b { s.mailOf b with toBank := (s.mailOf b).toBank.tail }

/-- The slot of bank `b` reports to the cycle unit. -/
def State.reportCycle (s : State) (b : Bank) (r : CycleReport) : State :=
  s.setMail b { s.mailOf b with toCycle := (s.mailOf b).toCycle ++ [r] }

/-- The cycle unit has taken the oldest report of the slot of bank `b`. -/
def State.popCycleReport (s : State) (b : Bank) : State :=
  s.setMail b { s.mailOf b with toCycle := (s.mailOf b).toCycle.tail }

/-- The bank arbiter hands a cut of `h` to the slot of bank `b` (R116). -/
def State.handCut (s : State) (b : Bank) (h : Holder) : State :=
  s.setMail b { s.mailOf b with cuts := (s.mailOf b).cuts ++ [h] }

/-- The driver sequencer has taken the oldest cut handed to the slot of bank `b`. -/
def State.popCut (s : State) (b : Bank) : State :=
  s.setMail b { s.mailOf b with cuts := (s.mailOf b).cuts.tail }

/-! ## Arithmetic -/

/-- Exact division truncated to a whole number; by 0 the free value of log 7. -/
def quotient (a d : Nat) : Nat := if d = 0 then Config.quotientByZero a else a / d

/-- Fields packed from bit 0 upward, each to its width: the one packing of the part (spec/00_scope.md, "numbers and
fields"; R154, R158). Each field is given by its width and its value. -/
def packBits : List (Nat × Nat) → Nat
  | [] => 0
  | (w, v) :: rest => v % 2 ^ w + 2 ^ w * packBits rest

/-- Reply data or a table entry from fields packed from bit 0 upward (R158, R159). -/
def packData (fields : List (Nat × Nat)) : Data := BitVec.ofNat 48 (packBits fields)

/-- Reply data from data bytes, data byte 1 first. -/
def dataBytes (bytes : List Nat) : Data := packData (bytes.map fun v => (8, v))

/-- A one-bit field. -/
def bit (b : Bool) : Nat := if b then 1 else 0

/-- The number, counted from `n`, of the first check that fails. -/
def firstFailureFrom (n : Nat) : List Bool → Option Nat
  | [] => none
  | ok :: rest => if ok then firstFailureFrom (n + 1) rest else some n

/-- The number of the first check that fails, the first being check 1; none when all pass. -/
def firstFailure (checks : List Bool) : Option Nat := firstFailureFrom 1 checks

/-! ## Power-on reset -/

/-- The part after power-on reset (R6, R28, R44, R50, R61, R62, R82, R89, R102, R123, R137 to R139, R153, R157, R161,
R174). The time, the input pins and the queue of commands are no state of the part and stand (log 3). -/
def State.powerOn (s : State) : State :=
  { State.reset with now := s.now, sense := s.sense, camIn := s.camIn, pending := s.pending }

/-- POWER_ON_RESET (R6): every block takes its reset values. -/
def execPowerOnReset (dt : Nat) (s : State) : Host.Outcome State Fault Refusal := .next (s.advance dt).powerOn

end Sys2Proof.Machine
end

