-- ==== Sys2Proof/Machine/Operands.lean ====
section
/-! DEFINITION. Operands: reading fields out of parameter bytes (R154), and the codes of kinds, cylinders, results, views,
states and faults in frames and entries (section 8.6). -/

namespace Sys2Proof.Machine

/-- The field of `width` bits at bit `lo` of the parameters (R154). Fields follow one another from bit 0 of parameter byte 1
upward, so `lo` is the sum of the widths before. -/
def field (ps : Params) (lo width : Nat) : Nat := ps.toNat / 2 ^ lo % 2 ^ width

/-- A field read as a signed number in two's complement (R45). -/
def signedField (ps : Params) (lo width : Nat) : Int :=
  let v := field ps lo width
  if v < 2 ^ (width - 1) then (v : Int) else (v : Int) - 2 ^ width

/-- The cylinder of a number, 1 to 8. -/
def cylOf : Nat → Option Cyl
  | 1 => some .c1
  | 2 => some .c2
  | 3 => some .c3
  | 4 => some .c4
  | 5 => some .c5
  | 6 => some .c6
  | 7 => some .c7
  | 8 => some .c8
  | _ => none

/-- The bank, profile or slot of a 2-bit field, every value of which is in range. -/
def fourOf (n : Nat) : Four :=
  if n % 4 = 0 then .i0 else if n % 4 = 1 then .i1 else if n % 4 = 2 then .i2 else .i3

/-- The port of a 1-bit field: 0 for A, 1 for B (R33). -/
def portOf (n : Nat) : Port := if n % 2 = 0 then .a else .b

/-- The kind of a kind code; 0 is NONE and 5 to 7 name no kind (R33). -/
def kindOf : Nat → Option Kind
  | 1 => some .main
  | 2 => some .pilot
  | 3 => some .after
  | 4 => some .post
  | _ => none

/-- The kind code (R33). -/
def kindCode : Kind → Nat
  | .main => 1
  | .pilot => 2
  | .after => 3
  | .post => 4

/-- A cylinder-relative angle in a field of 14 bits, two's complement (R159). -/
def angleBits (a : Int) : Nat := (a % 16384).toNat

/-- The bit of a cylinder in a cylinder mask, bit 0 for cylinder 1 (R48, R89). -/
def inMask (mask : BitVec 8) (c : Cyl) : Bool := mask.getLsbD (c.num - 1)

/-- A cylinder mask holding the cylinders of which `sel` is true. -/
def maskOf (sel : Cyl → Bool) : Nat := packBits (Cyl.all.map fun c => (1, bit (sel c)))

/-- The result codes (R154). -/
def resultCode : Result → Nat
  | .ok => 0
  | .planOpen => 1
  | .planClosed => 2
  | .range => 3
  | .state => 4
  | .busy => 5
  | .unknown => 6
  | .planInvalid => 7

/-- The sync state codes of the summary byte (R158). -/
def syncCode : SyncState → Nat
  | .stopped => 0
  | .seeking => 1
  | .candidate => 2
  | .crankSync => 3
  | .fullSync => 4
  | .coasting => 5

/-- The fault kind codes; none is NONE (R160). -/
def faultCode : Option FaultKind → Nat
  | none => 0
  | some .overcurrent => 1
  | some .openPeak => 2
  | some .holdLoss => 3
  | some .earlyPeak => 4
  | some .releaseSlow => 5

/-- The kind of a fault that ends a drive. -/
def EndFault.kind : EndFault → FaultKind
  | .overcurrent => .overcurrent
  | .openPeak => .openPeak
  | .holdLoss => .holdLoss

/-- The verdict codes; a pulse without a verdict reads 0 (R159). -/
def verdictCode : Option Verdict → Nat
  | none => 0
  | some .accepted => 1
  | some (.excluded .spacing) => 2
  | some (.excluded .secondMain) => 3
  | some (.excluded .limit) => 4

/-- The contribution state codes (R160). -/
def contribCode : ContribState → Nat
  | .absent => 0
  | .live => 1
  | .expired => 2
  | .withdrawn => 3

/-- The status codes of a record's pulse (R159). -/
def statusCode : PulseState → Nat
  | .pending => 1
  | .due _ _ .cylinder => 2
  | .due _ _ .bank => 3
  | .energized _ => 4
  | .done => 5
  | .cut => 6
  | .faulted .overcurrent => 7
  | .faulted .openPeak => 8
  | .faulted .holdLoss => 9
  | .dropped .overrun => 10
  | .dropped .syncLoss => 11
  | .dropped .stop => 12
  | .dropped .endLimit => 13
  | .dropped (.tolerance .cylinder) => 14
  | .dropped (.tolerance .bank) => 15
  | .dropped .isolated => 16

/-- The service outcome codes (R160). -/
def serviceCode : ServiceOutcome → Nat
  | .none => 0
  | .done => 1
  | .cut => 2
  | .faulted => 3

/-- The view of a view code (R167). -/
def viewOf : Nat → Option View
  | 0 => some .stage
  | 1 => some .pubA
  | 2 => some .pubB
  | 3 => some .active
  | 4 => some .armed
  | 5 => some .outcome
  | 6 => some .fault
  | _ => none

/-- The view code (R167). -/
def viewCode : View → Nat
  | .stage => 0
  | .pubA => 1
  | .pubB => 2
  | .active => 3
  | .armed => 4
  | .outcome => 5
  | .fault => 6

/-- The entries a view holds for one cylinder (R167). -/
def viewEntries : View → Nat
  | .stage => 4
  | .pubA => 5
  | .pubB => 5
  | .active => 7
  | .armed => 13
  | .outcome => 13
  | .fault => 1

end Sys2Proof.Machine
end

