-- ==== Sys2Proof/Machine/Angle.lean ====
section
/-! DEFINITION. Angles: interpolation, speed, positions, arming points and start points
(spec/01_crank_and_cam_tracking.md, sections 1.4 and 1.5). -/

namespace Sys2Proof.Machine

/-- Steps of one revolution (spec/00_scope.md, "angle"). -/
def revSteps : Nat := 5760

/-- Steps of one engine cycle (spec/00_scope.md, "angle"). -/
def cycleSteps : Nat := 11520

/-- The spacing S between tooth positions in steps (section 1.1). -/
def WorkingCopy.spacing (w : WorkingCopy) : Nat := revSteps / w.teeth

/-- The engine angle of the arming point of `c` (R22). -/
def WorkingCopy.armAngle (w : WorkingCopy) (c : Cyl) : Nat := (w.tdc.get c + cycleSteps - w.advance) % cycleSteps

/-- The index of the last tooth before the gap, N-M-1 (section 1.1). -/
def WorkingCopy.lastIndex (w : WorkingCopy) : Nat := w.teeth - w.missing - 1

/-- The spacing S; without a working copy there is none. -/
def Tracker.spacing (t : Tracker) : Nat := t.copy.elim 0 (·.spacing)

/-- Phase is known in FULL_SYNC, and in COASTING with phase held (section 1.3). -/
def Tracker.phaseKnown (t : Tracker) : Bool :=
  match t.sync with
  | .fullSync => true
  | .coasting => t.phaseHeld
  | .stopped => false
  | .seeking => false
  | .candidate => false
  | .crankSync => false

/-- The tooth index is held in CRANK_SYNC, FULL_SYNC and COASTING (section 1.3). -/
def Tracker.indexHeld (t : Tracker) : Bool :=
  match t.sync with
  | .crankSync => true
  | .fullSync => true
  | .coasting => true
  | .stopped => false
  | .seeking => false
  | .candidate => false

/-- The last normal period; 0 while the window is empty, when there is none (R4). -/
def Tracker.lastPeriod (t : Tracker) : Nat := t.window.headD 0

/-- The period after the tooth held is the one at which the gap is due (R10). -/
def Tracker.gapDue (t : Tracker) : Bool :=
  match t.copy with
  | some w => decide (t.tooth = w.lastIndex)
  | none => false

/-- The steps to the next expected tooth: S, or (M+1) × S across the gap (R19). -/
def Tracker.span (t : Tracker) : Nat :=
  if t.gapDue then (t.copy.elim 0 (·.missing) + 1) * t.spacing else t.spacing

/-- The time since the last tooth (R19). -/
def Tracker.sinceTooth (t : Tracker) (now : Nat) : Nat := now - t.lastTooth.getD now

/-- The interpolated part at time `now`: nothing at the tooth itself (R18), then clamped one step short of the span (R19). -/
def Tracker.interpolated (t : Tracker) (now : Nat) : Nat :=
  if t.sinceTooth now = 0 then 0
  else min (quotient (t.spacing * t.sinceTooth now) t.lastPeriod) (t.span - 1)

/-- The revolution angle at time `now` (R19). -/
def Tracker.revAngle (t : Tracker) (now : Nat) : Nat := t.tooth * t.spacing + t.interpolated now

/-- The engine angle at time `now` (R19). -/
def Tracker.engineAngle (t : Tracker) (now : Nat) : Nat := bit t.rev * revSteps + t.revAngle now

/-- The position at time `now`: the engine angle and the passings of 0 since phase was gained (log 10). -/
def Tracker.position (t : Tracker) (now : Nat) : Nat := t.marks.laps * cycleSteps + t.engineAngle now

/-- An angle as the masters read it: 0xFFFF when it is not held (R27). -/
def readAngle (held : Bool) (a : Nat) : Nat := if held then a else 0xFFFF

/-- Engine speed in rpm at a push of period `p` (R21); without a wheel geometry the free value of log 8, under the bound of
65,535. -/
def speedOf (copy : Option WorkingCopy) (p : Nat) : Nat :=
  min 65535 (match copy with
    | some w => quotient (60000000 * w.spacing) (revSteps * p)
    | none => Config.speedWithoutGeometry p)

/-! ## Points -/

/-- The least position at or above `low` whose engine angle is `x`. -/
def nextAt (low x : Nat) : Nat := low + (x + cycleSteps - low % cycleSteps) % cycleSteps

/-- The position of the next arming point of `c`: past the watch bound and past the last one delivered, and not withheld by
a load (R2, R22, log 10). -/
def Tracker.nextArming (t : Tracker) (w : WorkingCopy) (c : Cyl) : Nat :=
  nextAt (max (t.marks.watchFrom + 1) (max (((t.marks.armedAt.get c).map (· + 1)).getD 0) (t.marks.withheldTo.get c)))
    (w.armAngle c)

/-- The cylinders that have arming points: 1 to the working copy's count (R22). -/
def WorkingCopy.cylinders (w : WorkingCopy) : List Cyl := Cyl.all.filter fun c => decide (c.num ≤ w.count)

/-- The position of the start point of a pulse of a record: arming advance plus start angle after the arming point that armed
the record (R23). -/
def Record.startPos (r : Record) (p : ArmedPulse) : Nat := r.armPos + ((r.advance : Int) + p.merged.pulse.start).toNat

/-- The positions of every point the tracker watches: the next arming point of each cylinder and the start point of each
PENDING pulse of a current record (R22, R23). -/
def State.watched (s : State) : List Nat :=
  (s.tracker.copy.elim [] fun w => w.cylinders.map (s.tracker.nextArming w)) ++
    Cyl.all.flatMap fun c => (s.lane c).current.elim [] fun r =>
      (r.pulses.filter fun p => decide (p.state = .pending)).map r.startPos

/-- A sync change loses phase (R25). -/
def SyncNotice.losesPhase (n : SyncNotice) : Bool := n.phaseBefore && !n.phaseAfter

/-- The cycle unit has taken every loss of phase; until then the pulses that wait are lost to it and no point or offer
reaches them (R24, R94, R96, log 12). -/
def State.noLossWaiting (s : State) : Bool := s.syncToCycle.all fun n => !n.losesPhase

/-- Some arming is between its arming point and its answer (R86). -/
def State.armingInCourse (s : State) : Bool := Cyl.all.any fun c => (s.lane c).arming.isSome

/-- A point at or before the angle now held is not delivered yet, or an arming in course may bring one. -/
def State.pointsOwed (s : State) : Bool :=
  s.watched.any (fun q => decide (q ≤ s.tracker.position s.now)) || s.armingInCourse

/-- The jump passes or reaches both `first` and the later position `pos` (R24). -/
def Jump.holdsBoth (j : Jump) (first pos : Nat) : Bool := decide (j.start < first ∧ first < pos ∧ pos ≤ j.stop)

/-- The record of an arming point that lies earlier in the same jump is not made yet; the points after it wait (R24). An arming
from before a loss of phase belongs to no jump that is still remembered. -/
def State.jumpWaits (s : State) (pos : Nat) : Bool :=
  Cyl.all.any fun c => (s.lane c).arming.elim false fun a =>
    a.loss.isNone && s.tracker.marks.jumps.any fun j => j.holdsBoth a.pos pos

/-- The point at `pos` is at hand: phase is known, the angle has reached it, no watched point lies before it, and nothing
holds it back (R22, R23, R24). -/
def State.pointReached (s : State) (pos : Nat) : Bool :=
  s.tracker.phaseKnown && s.noLossWaiting && decide (pos ≤ s.tracker.position s.now) &&
    s.watched.all (fun q => decide (pos ≤ q)) && !s.jumpWaits pos

/-- A start point taken at a jump strictly before the tooth's angle carries the LATE flag (R24). -/
def PointMarks.late (m : PointMarks) (pos : Nat) : Bool := m.jumps.any fun j => decide (j.start < pos ∧ pos < j.stop)

end Sys2Proof.Machine
end

