-- ==== Sys2Proof/Machine/Flags.lean ====
section
/-! DEFINITION. The sticky flags of a port, its attention output and its flow-control output
(spec/08_master_ports_frames_and_request_queues.md, spec/09_flags_attention_and_table_views.md). -/

namespace Sys2Proof.Machine

/-- The sixteen sticky flags (R160, R161). -/
inductive Flag where
  | syncChange | syncLost | toothError | phaseError
  | mergeExcluded | contribExpired | peerExpired | pulseDropped
  | pulseCut | pulseClipped | driverFault | cylIsolated
  | serviceDone | planChange | queueOverflow | badFrame
deriving DecidableEq, Repr

/-- The bit of a flag in the flag word (R160). -/
def Flag.bitNumber : Flag → Nat
  | .syncChange => 0 | .syncLost => 1 | .toothError => 2 | .phaseError => 3
  | .mergeExcluded => 4 | .contribExpired => 5 | .peerExpired => 6 | .pulseDropped => 7
  | .pulseCut => 8 | .pulseClipped => 9 | .driverFault => 10 | .cylIsolated => 11
  | .serviceDone => 12 | .planChange => 13 | .queueOverflow => 14 | .badFrame => 15

/-- The flag word with only this flag set. -/
def Flag.word (f : Flag) : BitVec 16 := 1#16 <<< f.bitNumber

/-- ATTN_N is asserted while at least one flag is set whose bit in the attention mask is 1 (R165). -/
def attention (flags mask : BitVec 16) : Bool := decide (flags &&& mask ≠ 0)

/-- The port with a new flag word; ATTN_N follows at once (R165). -/
def PortState.withFlags (q : PortState) (w : BitVec 16) : PortState :=
  { q with flags := w, attn := attention w q.mask }

/-- The port with one flag set (R161). -/
def PortState.raise (q : PortState) (f : Flag) : PortState := q.withFlags (q.flags ||| f.word)

/-- A flag of port `p` is set (R161, R162). -/
def State.raise (s : State) (p : Port) (f : Flag) : State := s.setPort p ((s.port p).raise f)

/-- A flag is set on both ports. -/
def State.raiseBoth (s : State) (f : Flag) : State := (s.raise .a f).raise .b f

/-- A flag is set on port `p` if `on`. -/
def State.raiseIf (s : State) (on : Bool) (p : Port) (f : Flag) : State := if on then s.raise p f else s

/-- A flag is set on both ports if `on`. -/
def State.raiseBothIf (s : State) (on : Bool) (f : Flag) : State := if on then s.raiseBoth f else s

/-- A flag is set on the port of origin of each of the pulses (R98). -/
def State.raiseOrigins (s : State) (f : Flag) (ps : List ArmedPulse) : State :=
  ps.foldl (fun s p => s.raise p.merged.port f) s

/-- HOLD_N after an append (R150): asserted at or above the halt level. -/
def PortState.holdAfterAppend (q : PortState) : PortState :=
  if q.halt ≤ q.commands.length then { q with hold := true } else q

/-- HOLD_N after a taking or a discard (R150): released at or below the resume level. -/
def PortState.holdAfterRemoval (q : PortState) : PortState :=
  if q.commands.length ≤ q.resume then { q with hold := false } else q

end Sys2Proof.Machine
end

