-- ==== Sys2Proof/Machine/Tracker.lean ====
section
/-! DEFINITION. The crank and cam tracker: tooth arrivals, sync states, stall, loads of the working copy and sync change
reports (spec/01_crank_and_cam_tracking.md). -/

namespace Sys2Proof.Machine

/-! ## Window and gap test -/

/-- A normal period is pushed, and the speed recomputed (R4, R21). -/
def Tracker.push (t : Tracker) (p : Nat) : Tracker :=
  { t with window := (p :: t.window).take 8, speed := speedOf t.copy p }

/-- The gap test (R5); false when it is not made. -/
def Tracker.gapLike (t : Tracker) (p : Nat) : Bool :=
  match t.copy with
  | some w => decide (4 ≤ t.window.length ∧ w.gapRatio * t.window.sum ≤ 8 * p * t.window.length)
  | none => false

/-! ## What an arrival does in each sync state -/

/-- The arriving tooth becomes the candidate tooth (R8, R9, R15). -/
def Tracker.becomeCandidate (t : Tracker) (cam : Bool) : Tracker :=
  { t with sync := .candidate, phaseHeld := false, candidateCount := 0, prevCam := some cam }

/-- Sync is lost to SEEKING with the window kept (R2, R13, R14). -/
def Tracker.becomeSeeking (t : Tracker) : Tracker := { t with sync := .seeking, phaseHeld := false }

/-- An arrival in CANDIDATE (R9). -/
def Tracker.candidateTooth (t : Tracker) (gap : Bool) (p : Nat) (cam : Bool) : Tracker :=
  let confirm := t.copy.elim 0 fun w => w.teeth - w.missing
  if gap then
    if t.candidateCount + 1 = confirm then
      { t with sync := .crankSync, candidateCount := confirm, tooth := 0, missedGaps := 0, prevCam := some cam }
    else t.becomeCandidate cam
  else { t.push p with candidateCount := min (t.candidateCount + 1) (confirm + 1) }

/-- The engine angle passes 0 with phase known: the cycle count steps (R20) and a lap is counted (log 10). -/
def Tracker.passZero (t : Tracker) : Tracker :=
  { t with cycles := t.cycles + 1, marks := { t.marks with laps := t.marks.laps + 1 } }

/-- The arrival has begun the revolution now held; where that is revolution 0 and phase is known, the engine angle has passed
0 (R20, log 9). -/
def Tracker.countCycle (t : Tracker) : Tracker := if t.phaseKnown && !t.rev then t.passZero else t

/-- Phase is gained at this gap: the revolution follows from the sample, and a regaining steps the cycle count (R12, R20). No
point at or before the angle then set is delivered (R24). -/
def Tracker.gainPhase (t : Tracker) (cam : Bool) : Tracker :=
  let rev := cam != t.copy.elim false (·.cam0)
  let pos := bit rev * revSteps
  { t with
    sync := .fullSync
    rev := rev
    phaseMisses := 0
    prevCam := some cam
    cycles := if t.phaseGained then t.cycles + 1 else t.cycles
    phaseGained := true
    marks := { laps := 0, gainPos := pos, watchFrom := pos, jumps := [], armedAt := .fill none, withheldTo := .fill 0 } }

/-- A gap where due in CRANK_SYNC is the chance to learn the phase (R12). -/
def Tracker.learnPhase (t : Tracker) (cam : Bool) : Tracker :=
  match t.prevCam with
  | some before => if before = cam then { t with prevCam := some cam } else t.gainPhase cam
  | none => { t with prevCam := some cam }

/-- The cam level expected at the gap that begins the revolution held (R16). -/
def Tracker.expectedCam (t : Tracker) : Bool := t.rev != t.copy.elim false (·.cam0)

/-- The phase check finds a mismatch at the revolution held (R16). -/
def Tracker.camMismatch (t : Tracker) (cam : Bool) : Bool := cam != t.expectedCam

/-- The phase check in FULL_SYNC at the gap that begins the revolution now held (R16). -/
def Tracker.checkPhase (t : Tracker) (cam : Bool) : Tracker :=
  if t.camMismatch cam then
    if t.copy.elim 0 (·.phaseMissLimit) ≤ t.phaseMisses + 1 then
      { t with sync := .crankSync, phaseMisses := t.phaseMisses + 1, prevCam := some cam }
    else { t with phaseMisses := t.phaseMisses + 1, prevCam := some cam }
  else { t with phaseMisses := 0, prevCam := some cam }

/-- The arriving tooth is tooth 0 of the other revolution (R18). -/
def Tracker.flip (t : Tracker) : Tracker := { t with tooth := 0, rev := !t.rev }

/-- A gap-like period where the gap is due, in CRANK_SYNC, FULL_SYNC or COASTING (R10, R12, R14, R16). -/
def Tracker.gapWhereDue (t : Tracker) (cam : Bool) : Tracker :=
  match t.sync with
  | .fullSync => (t.flip.checkPhase cam).countCycle
  | .coasting =>
    if t.phaseHeld then
      ({ t.flip with sync := .fullSync, phaseHeld := false, missedGaps := 0 }.checkPhase cam).countCycle
    else { t with sync := .crankSync, missedGaps := 0, tooth := 0 }.learnPhase cam
  | .crankSync => { t with tooth := 0 }.learnPhase cam
  | .stopped => t
  | .seeking => t
  | .candidate => t

/-- The phase check of this arrival is made and finds a mismatch (R16, R25). -/
def Tracker.phaseError (t : Tracker) (cam : Bool) : Bool := t.phaseKnown && t.flip.camMismatch cam

/-- A missed gap (R13, R14): the arriving tooth is taken as tooth 0 all the same. -/
def Tracker.missedGap (t : Tracker) (p : Nat) : Tracker :=
  let missed := if t.sync = .coasting then t.missedGaps + 1 else 1
  let u := { t.push p with tooth := 0, prevCam := none, missedGaps := missed }
  if t.copy.elim 0 (·.coastLimit) ≤ missed then u.becomeSeeking
  else if t.phaseKnown then { u with sync := .coasting, phaseHeld := true, rev := !t.rev }.countCycle
  else { u with sync := .coasting, phaseHeld := false }

/-- An arrival in CRANK_SYNC, FULL_SYNC or COASTING (R10). -/
def Tracker.syncTooth (t : Tracker) (gap : Bool) (p : Nat) (cam : Bool) : Tracker :=
  if gap then
    if t.gapDue then t.gapWhereDue cam else t.becomeCandidate cam
  else
    if t.gapDue then t.missedGap p else { t.push p with tooth := t.tooth + 1 }

/-- An arrival that yields the period `p` (R7 to R16). -/
def Tracker.afterPeriod (t : Tracker) (p : Nat) (cam : Bool) : Tracker :=
  match t.sync with
  | .stopped => t
  | .seeking => if t.gapLike p then t.becomeCandidate cam else t.push p
  | .candidate => t.candidateTooth (t.gapLike p) p cam
  | .crankSync => t.syncTooth (t.gapLike p) p cam
  | .fullSync => t.syncTooth (t.gapLike p) p cam
  | .coasting => t.syncTooth (t.gapLike p) p cam

/-- The jump of the engine angle at an arrival with phase known before and after (R24). Earlier jumps are kept while points of
them are `owed` to the cycle unit. -/
def Tracker.markJump (before after : Tracker) (now : Nat) (owed : Bool) : Tracker :=
  if before.phaseKnown && after.phaseKnown then
    { after with marks := { after.marks with
        jumps := ⟨before.position now, after.position now⟩ :: if owed then after.marks.jumps else [] } }
  else after

/-- A tooth arrival at time `now` (R3, R7): the arrival time is recorded, the stall timer restarted, and the period acted
on. -/
def Tracker.onTooth (t : Tracker) (now : Nat) (cam owed : Bool) : Tracker :=
  match t.sync, t.lastTooth with
  | .stopped, _ => { t with sync := .seeking, window := [], speed := 0, lastTooth := some now, stallOn := true }
  | _, none => { t with lastTooth := some now, stallOn := true }
  | _, some last => t.markJump ({ t with lastTooth := some now, stallOn := true }.afterPeriod (now - last) cam) now owed

/-- The period that ends at `now`, if an earlier arrival time is held (R3). -/
def Tracker.period (t : Tracker) (now : Nat) : Option Nat := t.lastTooth.map (now - ·)

/-- The arrival ends a gap-like period (R5). -/
def Tracker.seesGap (t : Tracker) (now : Nat) : Bool := (t.period now).elim false t.gapLike

/-- The arrival is a tooth error (R15). -/
def Tracker.isToothError (t : Tracker) (now : Nat) : Bool := t.indexHeld && t.seesGap now && !t.gapDue

/-- The arrival makes a phase check that finds a mismatch (R16). -/
def Tracker.isPhaseError (t : Tracker) (now : Nat) (cam : Bool) : Bool :=
  t.phaseKnown && t.seesGap now && t.gapDue && t.phaseError cam

/-! ## Stall -/

/-- The stall timeout in force, in µs: the working copy's, and 1,000 ms without one (R1). -/
def Tracker.stallTimeout (t : Tracker) : Nat := 1000 * t.copy.elim 1000 (·.stallMs)

/-- The stall timer has reached the timeout (R17). -/
def Tracker.stallDue (t : Tracker) (now : Nat) : Bool :=
  t.stallOn && t.lastTooth.elim false fun last => decide (last + t.stallTimeout ≤ now)

/-- The tracker enters STOPPED (R17). -/
def Tracker.stop (t : Tracker) : Tracker :=
  { t with sync := .stopped, window := [], speed := 0, lastTooth := none, candidateCount := 0, tooth := 0, rev := false,
           missedGaps := 0, phaseMisses := 0, prevCam := none, phaseHeld := false, stallOn := false }

/-! ## Loading the working copy -/

/-- The working copy that a PLAN_CLOSE loads (R1). -/
def Plan.workingCopy (p : Plan) : WorkingCopy :=
  { count := p.engine.val.count
    teeth := p.engine.val.teeth
    missing := p.engine.val.missing
    gapRatio := p.engine.val.gapRatio
    cam0 := p.engine.val.cam0
    tdc := ⟨p.cylinder.c1.val.tdc, p.cylinder.c2.val.tdc, p.cylinder.c3.val.tdc, p.cylinder.c4.val.tdc,
            p.cylinder.c5.val.tdc, p.cylinder.c6.val.tdc, p.cylinder.c7.val.tdc, p.cylinder.c8.val.tdc⟩
    advance := p.timing.val.advance
    coastLimit := p.limits.val.coast
    phaseMissLimit := p.limits.val.phaseMiss
    stallMs := p.limits.val.stallMs }

/-- The wheel fields are equal (R1, R2). -/
def WorkingCopy.sameWheel (v w : WorkingCopy) : Bool :=
  decide (v.teeth = w.teeth ∧ v.missing = w.missing ∧ v.gapRatio = w.gapRatio ∧ v.cam0 = w.cam0)

/-- The wheel fields in use equal those of the new copy (R2); without a working copy there are none in use. -/
def Tracker.sameWheel (t : Tracker) (w : WorkingCopy) : Bool := t.copy.elim false (·.sameWheel w)

/-- The new copy `w` gives `c` no arming point before the angle next passes 0: its arming point was delivered since the angle
last passed 0 or phase was gained, or its new one lies in that span up to the angle now (R2). -/
def Tracker.withholdsArming (t : Tracker) (w : WorkingCopy) (now : Nat) (c : Cyl) : Bool :=
  let lap := t.marks.laps * cycleSteps
  let new := lap + w.armAngle c
  (t.marks.armedAt.get c).elim false (fun pos => decide (lap ≤ pos)) ||
    decide (max lap t.marks.gainPos ≤ new ∧ new ≤ t.position now)

/-- The delivery marks after a load with phase known and equal wheel fields (R2, log 11). -/
def Tracker.marksAfterLoad (t : Tracker) (w : WorkingCopy) (now : Nat) : PointMarks :=
  let next := (t.marks.laps + 1) * cycleSteps
  { t.marks with
    watchFrom := t.position now
    withheldTo := Cyl.all.foldl (fun v c => if t.withholdsArming w now c then v.set c next else v) t.marks.withheldTo }

/-- The tracker takes a new working copy (R2), before the stall timer is judged anew. -/
def Tracker.load (t : Tracker) (w : WorkingCopy) (now : Nat) : Tracker :=
  if t.sameWheel w then
    if t.phaseKnown then { t with copy := some w, marks := t.marksAfterLoad w now } else { t with copy := some w }
  else
    if t.sync = .stopped ∨ t.sync = .seeking then { t with copy := some w }
    else { t with copy := some w }.becomeSeeking

/-! ## Reports -/

/-- The change from `old` to the tracker now held loses phase or the tooth index (R25). -/
def lostSync (old new : Tracker) : Bool :=
  (old.indexHeld && !new.indexHeld) || (old.phaseKnown && !new.phaseKnown)

/-- The tracker becomes `new`; a change of sync state is handed over and sets its flags (R25). -/
def State.trackerBecomes (s : State) (new : Tracker) : State :=
  let old := s.tracker
  if old.sync = new.sync then s.setTracker new
  else
    let n : SyncNotice := ⟨old.sync, new.sync, old.phaseKnown, new.phaseKnown⟩
    let s := { s.setTracker new with syncToCycle := s.syncToCycle ++ [n], syncToTable := s.syncToTable ++ [n] }
    (s.raiseBoth .syncChange).raiseBothIf (lostSync old new) .syncLost

/-- A stall that has come is taken at once after a load (R2). -/
def State.stallIfDue (s : State) : State :=
  if s.tracker.stallDue s.now then s.trackerBecomes s.tracker.stop else s

/-- The working copy is loaded and the tracker takes it (R2, R39). -/
def State.loadWorkingCopy (s : State) : State :=
  (s.trackerBecomes (s.tracker.load s.plan.workingCopy s.now)).stallIfDue

/-! ## Meanings -/

/-- A tooth arrival: the tracker acts on it, reports go out, and the arrival is handed to the cycle unit (R3, R25, R26). -/
def State.tooth (s : State) (cam : Bool) : State :=
  let t := s.tracker
  let s := (((({ s with camIn := cam }).trackerBecomes (t.onTooth s.now cam s.pointsOwed)).raiseBothIf (t.isToothError s.now)
    .toothError).raiseBothIf (t.isPhaseError s.now cam) .phaseError)
  { s with toothNotices := s.toothNotices + 1 }

/-- TOOTH_ARRIVAL (R3). -/
def execToothArrival (dt : Nat) (cam : Bool) (s : State) : Host.Outcome State Fault Refusal :=
  .next ((s.advance dt).tooth cam)

/-- STALL_EXPIRY (R17): taken when the stall timer has reached the timeout in force. -/
def execStallExpiry (dt : Nat) (s : State) : Host.Outcome State Fault Refusal := .next (s.advance dt).stallIfDue

end Sys2Proof.Machine
end

