-- ==== Sys2Proof/Machine/Driver.lean ====
section
/-! DEFINITION. The driver sequencer: drive slots, sense events, timers, faults and isolation
(spec/07_energizing_profiles_and_driver_faults.md). -/

namespace Sys2Proof.Machine

/-! ## Faults (R136 to R139) -/

/-- The faults of a drive with one kind found, held once, the last found first (R123, R136). -/
def addFault (k : FaultKind) (ks : List FaultKind) : List FaultKind := k :: ks.filter fun j => decide (j ≠ k)

/-- The cycle number of a fault record: that of the pulse's record, or the engine cycle count for a service drive (R139,
R177). -/
def State.faultCycle (s : State) : Holder → BitVec 16
  | .scheduled id => id.cycle
  | .service _ => s.tracker.cycles

/-- The pulse kind of a fault record: none for a service drive (R139). -/
def Holder.pulseKind : Holder → Option Kind
  | .scheduled id => some id.kind
  | .service _ => none

/-- A fault is found on the drive `d` of the slot of bank `b` (R136). -/
def State.recordFault (s : State) (b : Bank) (d : Drive) (k : FaultKind) : State :=
  let s := s.setSlot b { s.slot b with faults := addFault k (s.slot b).faults }
  (s.setFaults d.cyl { s.faultsOf d.cyl with
    lastKind := some k, lastCycle := s.faultCycle d.holder, lastPulse := d.holder.pulseKind }).raiseBoth .driverFault

/-- The consecutive fault count after a scheduled drive (R137). -/
def countAfter (faults : List FaultKind) (count : Nat) : Nat := if faults.isEmpty then 0 else min (count + 1) 15

/-- The count of cylinder `c` is updated, and a count at or above the threshold isolates it (R137, R138). -/
def State.countDrive (s : State) (b : Bank) (c : Cyl) (faults : List FaultKind) : State :=
  let f := s.faultsOf c
  let n := countAfter faults f.count
  if !f.isolated && decide (s.plan.limits.val.isolation ≤ n) then
    ((s.setFaults c { f with count := n, isolated := true }).raiseBoth .cylIsolated).reportCycle b (.isolation c)
  else s.setFaults c { f with count := n }

/-! ## Release completion and drive end (R133 to R135) -/

/-- The release of drive `d` on bank `b` is complete (R135). -/
def State.completeRelease (s : State) (b : Bank) (d : Drive) : State :=
  let faults := (s.slot b).faults
  let s := (s.reportBank b .releaseComplete).reportCycle b (.release d.holder faults.head? s.now)
  let s := match d.holder with
    | .scheduled _ => s.countDrive b d.cyl faults
    | .service _ => s
  s.setSlot b { s.slot b with
    phase := .off, drive := none, cause := none, faults := [], earlyPeak := false, releaseTimer := none, iref := ⟨0, 0, 0⟩ }

/-- The slot at a drive end: gates off, timers stopped, cause recorded, release-limit timer started (R133 steps 1 to 3). -/
def DriveSlot.endDrive (x : DriveSlot) (d : Drive) (cause : Cause) (now : Nat) : DriveSlot :=
  { x with
    phase := .release
    cause := some cause
    durationTimer := none
    peakLimitTimer := none
    holdLossTimer := none
    releaseTimer := some (now + d.profile.releaseLimit)
    boostGate := false
    battGate := false
    iref := { x.iref with peak := d.profile.hold } }

/-- The drive `d` on bank `b` ends (R133). A boost end not yet reported goes first (R103), and a release of which ZRb is
asserted already completes at once (R134). -/
def State.endDrive (s : State) (b : Bank) (d : Drive) (cause : Cause) : State :=
  let x := s.slot b
  let s := (s.setSlot b (x.endDrive d cause s.now)).setLowGate d.cyl false
  let s := if x.phase = .boost then s.reportBank b (.boostEnd s.now) else s
  let s := (s.reportBank b .driveEnd).reportCycle b (.driveEnd d.holder cause x.earlyPeak x.start s.now)
  if (s.senseOf b).zr then s.completeRelease b d else s

/-- A fault that ends the drive: recorded, then the drive ends with it (R127, R129, R130). -/
def State.faultDrive (s : State) (b : Bank) (d : Drive) (k : EndFault) : State :=
  (s.recordFault b d k.kind).endDrive b d (.fault k)

/-! ## Boost and hold (R125 to R130) -/

/-- The slot enters HOLD: the boost gate is off, the peak level is the hold current, the battery gate chops against PKb, and
the hold-loss timer starts if FLb is asserted already (R126, R128, R129). -/
def DriveSlot.enterHold (x : DriveSlot) (d : Drive) (now : Nat) (levels : Sense) : DriveSlot :=
  { x with
    phase := .hold
    peakLimitTimer := none
    holdLossTimer := if levels.fl then some (now + d.profile.holdLoss) else none
    boostGate := false
    battGate := !levels.pk
    iref := { x.iref with peak := d.profile.hold } }

/-- The PEAK comes before the profile's minimum peak time (R126). -/
def DriveSlot.peaksEarly (x : DriveSlot) (d : Drive) (now : Nat) : Bool := decide (now - x.start < d.profile.minPeak)

/-- An early PEAK sets EARLY_PEAK and records the fault; the drive continues (R126 step 1). -/
def State.noteEarlyPeak (s : State) (b : Bank) (d : Drive) : State :=
  if (s.slot b).peaksEarly d s.now then
    (s.setSlot b { s.slot b with earlyPeak := true }).recordFault b d .earlyPeak
  else s

/-- A PEAK of drive `d` in BOOST (R126). -/
def State.peakDrive (s : State) (b : Bank) (d : Drive) : State :=
  let s := (s.noteEarlyPeak b d).reportBank b (.boostEnd s.now)
  s.setSlot b ((s.slot b).enterHold d s.now (s.senseOf b))

/-- The slot as a drive starts (R125 steps 1 to 6). -/
def startedSlot (d : Drive) (now : Nat) : DriveSlot :=
  { phase := .boost
    drive := some d
    start := now
    cause := none
    faults := []
    earlyPeak := false
    durationTimer := some (now + d.duration)
    peakLimitTimer := some (now + d.profile.peakLimit)
    holdLossTimer := none
    releaseTimer := none
    boostGate := true
    battGate := false
    iref := ⟨d.profile.peak, d.profile.hold / 2, d.profile.trip⟩ }

/-- The drive that a grant or a service pulse hands over, with the profile read from the plan (R123, R125). -/
def Plan.driveOf (pl : Plan) (h : Holder) (c : Cyl) (profile : ProfileIx) (duration : Nat) : Drive :=
  { cyl := c, profileIx := profile, profile := (pl.profile.get profile).val, duration := duration, holder := h }

/-- A drive starts on bank `b`; `x` are the comparator levels as BOOST is entered. A TRIP, or else a PEAK, that is asserted
already is taken at once (R125). -/
def State.startDrive (s : State) (b : Bank) (d : Drive) (x : Sense) : State :=
  let s := ((s.setSense b x).setSlot b (startedSlot d s.now)).setLowGate d.cyl true
  if x.tr then s.faultDrive b d .overcurrent
  else if x.pk then s.peakDrive b d
  else s

/-! ## Sense events and timers -/

/-- A drive in BOOST or HOLD. -/
def DriveSlot.driving (x : DriveSlot) : Option Drive :=
  match x.phase with
  | .boost => x.drive
  | .hold => x.drive
  | .off => none
  | .release => none

/-- A drive in the given phase. -/
def DriveSlot.inPhase (x : DriveSlot) (ph : Phase) : Option Drive := if x.phase = ph then x.drive else none

/-- A timer that has expired at `now`. -/
def expired (timer : Option Nat) (now : Nat) : Bool := timer.elim false fun t => decide (t ≤ now)

/-- PKb is asserted: a PEAK in BOOST (R126). In HOLD it is a change of the chopping, HOLD_CHOP. -/
def State.onPeak (s : State) (b : Bank) (x : Sense) : State :=
  let s := s.setSense b { x with pk := true }
  match (s.slot b).inPhase .boost with
  | some d => s.peakDrive b d
  | none => s

/-- PKb changes to `pk`: in HOLD the battery gate is on while PKb is released (R128). -/
def State.onChop (s : State) (b : Bank) (pk : Bool) : State :=
  let s := s.setSense b { s.senseOf b with pk := pk }
  match (s.slot b).inPhase .hold with
  | some _ => s.setSlot b { s.slot b with battGate := !pk }
  | none => s

/-- FLb is asserted: in HOLD it starts the hold-loss timer unless that runs already (R129). -/
def State.onFloorEntry (s : State) (b : Bank) : State :=
  let s := s.setSense b { s.senseOf b with fl := true }
  match (s.slot b).inPhase .hold with
  | some d => s.setSlot b { s.slot b with
      holdLossTimer := (s.slot b).holdLossTimer.or (some (s.now + d.profile.holdLoss)) }
  | none => s

/-- FLb is released: in HOLD it stops the hold-loss timer (R129). -/
def State.onFloorExit (s : State) (b : Bank) : State :=
  let s := s.setSense b { s.senseOf b with fl := false }
  match (s.slot b).inPhase .hold with
  | some _ => s.setSlot b { s.slot b with holdLossTimer := none }
  | none => s

/-- The hold-loss timer expires in HOLD (R129). -/
def State.onHoldLoss (s : State) (b : Bank) (x : Sense) : State :=
  match (s.slot b).inPhase .hold with
  | some d => if expired (s.slot b).holdLossTimer s.now then (s.setSense b x).faultDrive b d .holdLoss else s
  | none => s

/-- The peak-limit timer expires in BOOST (R127). -/
def State.onPeakLimit (s : State) (b : Bank) (x : Sense) : State :=
  match (s.slot b).inPhase .boost with
  | some d => if expired (s.slot b).peakLimitTimer s.now then (s.setSense b x).faultDrive b d .openPeak else s
  | none => s

/-- TRb is asserted (R130): in BOOST or HOLD it ends the drive, in RELEASE it is only recorded, in OFF it is not acted
on. -/
def State.onTrip (s : State) (b : Bank) (x : Sense) : State :=
  let s := s.setSense b { x with tr := true }
  match (s.slot b).phase, (s.slot b).drive with
  | .boost, some d => s.faultDrive b d .overcurrent
  | .hold, some d => s.faultDrive b d .overcurrent
  | .release, some d => s.recordFault b d .overcurrent
  | .off, _ => s
  | _, none => s

/-- The duration timer expires in BOOST or HOLD (R131). -/
def State.onDuration (s : State) (b : Bank) (x : Sense) : State :=
  match (s.slot b).driving with
  | some d => if expired (s.slot b).durationTimer s.now then (s.setSense b x).endDrive b d .time else s
  | none => s

/-- The driver sequencer takes the oldest cut handed to the slot of bank `b` (R132): it ends the drive it names, in BOOST or
HOLD, and has no effect otherwise (log 13). -/
def State.onCut (s : State) (b : Bank) (x : Sense) : State :=
  match (s.mailOf b).cuts with
  | h :: _ =>
    let s := s.popCut b
    match (s.slot b).driving with
    | some d => if d.holder = h then (s.setSense b x).endDrive b d .cut else s
    | none => s
  | [] => s

/-- ZRb is asserted: in RELEASE it completes the release (R134). -/
def State.onZero (s : State) (b : Bank) : State :=
  let s := s.setSense b { s.senseOf b with zr := true }
  match (s.slot b).inPhase .release with
  | some d => s.completeRelease b d
  | none => s

/-- The low-side gates of every cylinder of bank `b` are driven off (R134). -/
def State.lowGatesOff (s : State) (b : Bank) : State :=
  Cyl.all.foldl (fun s c => if decide (c.num ≤ s.plan.count) && decide (s.plan.bankOf c = b) then s.setLowGate c false else s) s

/-- The release-limit timer expires in RELEASE (R134). -/
def State.onReleaseLimit (s : State) (b : Bank) : State :=
  match (s.slot b).inPhase .release with
  | some d =>
    if expired (s.slot b).releaseTimer s.now then
      let s := s.recordFault b d .releaseSlow
      ((s.setSlot b { s.slot b with boostGate := false, battGate := false }).lowGatesOff b).completeRelease b d
    else s
  | none => s

/-! ## Meanings -/

/-- PEAK (R126). -/
def execPeak (dt : Nat) (b : Bank) (x : Sense) (s : State) : Host.Outcome State Fault Refusal :=
  .next ((s.advance dt).onPeak b x)

/-- HOLD_CHOP (R128). -/
def execHoldChop (dt : Nat) (b : Bank) (pk : Bool) (s : State) : Host.Outcome State Fault Refusal :=
  .next ((s.advance dt).onChop b pk)

/-- FLOOR_ENTRY (R129). -/
def execFloorEntry (dt : Nat) (b : Bank) (s : State) : Host.Outcome State Fault Refusal :=
  .next ((s.advance dt).onFloorEntry b)

/-- FLOOR_EXIT (R129). -/
def execFloorExit (dt : Nat) (b : Bank) (s : State) : Host.Outcome State Fault Refusal :=
  .next ((s.advance dt).onFloorExit b)

/-- HOLD_LOSS_EXPIRY (R129). -/
def execHoldLossExpiry (dt : Nat) (b : Bank) (x : Sense) (s : State) : Host.Outcome State Fault Refusal :=
  .next ((s.advance dt).onHoldLoss b x)

/-- PEAK_LIMIT_EXPIRY (R127). -/
def execPeakLimitExpiry (dt : Nat) (b : Bank) (x : Sense) (s : State) : Host.Outcome State Fault Refusal :=
  .next ((s.advance dt).onPeakLimit b x)

/-- TRIP (R130). -/
def execTrip (dt : Nat) (b : Bank) (x : Sense) (s : State) : Host.Outcome State Fault Refusal :=
  .next ((s.advance dt).onTrip b x)

/-- DURATION_EXPIRY (R131). -/
def execDurationExpiry (dt : Nat) (b : Bank) (x : Sense) (s : State) : Host.Outcome State Fault Refusal :=
  .next ((s.advance dt).onDuration b x)

/-- DRIVER_CUT (R132). -/
def execDriverCut (dt : Nat) (b : Bank) (x : Sense) (s : State) : Host.Outcome State Fault Refusal :=
  .next ((s.advance dt).onCut b x)

/-- ZERO (R134). -/
def execZero (dt : Nat) (b : Bank) (s : State) : Host.Outcome State Fault Refusal := .next ((s.advance dt).onZero b)

/-- RELEASE_LIMIT_EXPIRY (R134). -/
def execReleaseLimitExpiry (dt : Nat) (b : Bank) (s : State) : Host.Outcome State Fault Refusal :=
  .next ((s.advance dt).onReleaseLimit b)

end Sys2Proof.Machine
end

