-- ==== Sys2Proof/Machine/Banks.lean ====
section
/-! DEFINITION. The bank arbiter: wait queues, offers, grants, recharge, preemption and cuts
(spec/06_banks_and_the_bank_arbiter.md). -/

namespace Sys2Proof.Machine

/-! ## The wait queue (R107, R108) -/

/-- The class rank of a queue entry. -/
def QueueEntry.rank (e : QueueEntry) : Nat := kindRank e.id.kind

/-- Entry `e`, joining now, stands before `x`: higher class rank, or equal rank and earlier due time (R107). -/
def QueueEntry.precedes (e x : QueueEntry) : Bool := decide (x.rank < e.rank ∨ (x.rank = e.rank ∧ e.due < x.due))

/-- The queue with `e` joined (R107). -/
def joinQueue (e : QueueEntry) : List QueueEntry → List QueueEntry
  | [] => [e]
  | x :: rest => if e.precedes x then e :: x :: rest else x :: joinQueue e rest

/-- The queue without the entry of pulse `id`; those behind keep their order (R108). -/
def leaveQueue (id : PulseId) (q : List QueueEntry) : List QueueEntry := q.filter fun e => decide (e.id ≠ id)

/-! ## Offers (R109) -/

/-- An IDLE bank with no outstanding offer offers itself to the head of its queue (R109). -/
def BankRecord.makeOffer (r : BankRecord) : BankRecord :=
  if r.state = .idle ∧ r.offer = none then { r with offer := r.queue.head? } else r

/-! ## Preemption (R113, R114) -/

/-- The entry qualifies for preemption: the bank is HELD by a scheduled pulse that it outranks by two or more (R113). -/
def BankRecord.qualifies (r : BankRecord) (e : QueueEntry) : Bool :=
  match r.state, r.holder with
  | .held, some (.scheduled id) => decide (kindRank id.kind + 2 ≤ e.rank)
  | .held, some (.service _) => false
  | .held, none => false
  | .idle, _ => false
  | .releasing, _ => false
  | .recovering, _ => false

/-- The preempt timer starts for `e` if it qualifies and the timer is stopped (R113). A bank whose holder's cut is on its way is
still HELD, and an entry that qualifies then starts the timer anew (log 30). -/
def BankRecord.claim (r : BankRecord) (e : QueueEntry) (now delay : Nat) : BankRecord :=
  if r.qualifies e ∧ r.preempt = none then { r with preempt := some ⟨now + delay, e⟩ } else r

/-- After the starter has left, the first entry that qualifies is the starter, or the timer stops; a starter still queued
stays (R114). -/
def BankRecord.restart (r : BankRecord) (left : PulseId) : BankRecord :=
  match r.preempt with
  | some t =>
    if t.starter.id = left then
      { r with preempt := (r.queue.find? r.qualifies).map fun e => { t with starter := e } }
    else r
  | none => r

/-! ## What the arbiter does at each event -/

/-- An entry joins the queue: offered if the bank is IDLE, tested for preemption if it is HELD (R107, R109, R113). -/
def BankRecord.join (r : BankRecord) (e : QueueEntry) (now delay : Nat) : BankRecord :=
  ({ r with queue := joinQueue e r.queue }.makeOffer).claim e now delay

/-- The entry of pulse `id` is removed: an outstanding offer to it lapses and the bank goes on to its next head (R112); the
preempt timer it started is stopped or passed on (R114). -/
def BankRecord.remove (r : BankRecord) (id : PulseId) : BankRecord :=
  ({ r with
    queue := leaveQueue id r.queue
    offer := r.offer.filter fun e => decide (e.id ≠ id) }.makeOffer).restart id

/-- The bank offers itself to the pulse `id`, and is IDLE (R110). -/
def BankRecord.offers (r : BankRecord) (id : PulseId) : Bool :=
  decide (r.state = .idle) && r.offer.elim false fun e => decide (e.id = id)

/-- Steps 1 to 3 and 5 of a grant to pulse `id` (R110). -/
def BankRecord.grant (r : BankRecord) (id : PulseId) (now delay : Nat) : BankRecord :=
  let r := { r with
    queue := leaveQueue id r.queue, offer := none, state := .held, holder := some (.scheduled id), recharge := .waiting }
  match r.queue.find? r.qualifies with
  | some e => r.claim e now delay
  | none => r

/-- A refused offer: the entry leaves, the bank stays IDLE and offers to its next head (R111). -/
def BankRecord.refused (r : BankRecord) (id : PulseId) : BankRecord :=
  { r with queue := leaveQueue id r.queue, offer := none }.makeOffer

/-- The boost end at `moment` starts the recharge, which ends the recharge time after that moment, or makes it DONE at once if
the recharge time is 0 (R34, R103). -/
def BankRecord.boostEnded (r : BankRecord) (moment time : Nat) : BankRecord :=
  { r with recharge := if time = 0 then .done else .running (moment + time) }

/-- The holder's drive end (R104). -/
def BankRecord.driveEnded (r : BankRecord) : BankRecord :=
  if r.state = .held then { r with state := .releasing, preempt := none } else r

/-- The release completion (R105). -/
def BankRecord.released (r : BankRecord) : BankRecord :=
  if r.state = .releasing then
    if r.recharge = .done then { r with state := .idle, holder := none }.makeOffer
    else { r with state := .recovering, holder := none }
  else r

/-- A running recharge that has reached its end time is DONE; a RECOVERING bank becomes IDLE (R106). -/
def BankRecord.recharged (r : BankRecord) (now : Nat) : BankRecord :=
  match r.recharge with
  | .running t =>
    if t ≤ now then
      if r.state = .recovering then { r with recharge := .done, state := .idle }.makeOffer
      else { r with recharge := .done }
    else r
  | .done => r
  | .waiting => r

/-- The plan's group of bank `b`. -/
def Plan.bankGroup (pl : Plan) (b : Bank) : BankPlan := (pl.bank.get b).val

/-- The oldest message of the lane of `c` to the bank arbiter. -/
def State.message (s : State) (c : Cyl) : Option BankMessage := (s.lane c).outbox.head?

/-- The message is an entry for bank `b` with due time `due` that was handed over before turn `turn` (R107). -/
def BankMessage.joinsBefore (b : Bank) (due turn : Nat) : BankMessage → Bool
  | .entry b' e n => decide (b' = b ∧ e.due = due ∧ n < turn)
  | .removal _ _ => false
  | .accept _ _ _ _ => false
  | .refuse _ _ => false
  | .cut _ _ => false

/-- An entry of equal due time for bank `b` was handed over before turn `turn` and has not joined yet (R107, log 14). -/
def State.joinWaits (s : State) (b : Bank) (due turn : Nat) : Bool :=
  Cyl.all.any fun c => (s.lane c).outbox.any (BankMessage.joinsBefore b due turn)

/-- The bank arbiter takes an entry from the lane of `c`; of entries with equal due time the one handed over first joins
first (R107, log 14). -/
def State.takeEntry (s : State) (c : Cyl) : State :=
  match s.message c with
  | some (.entry b e turn) =>
    if s.joinWaits b e.due turn then s
    else (s.popOutbox c).setBank b ((s.bank b).join e s.now (s.plan.bankGroup b).preemptDelay)
  | some (.removal _ _) => s
  | some (.accept _ _ _ _) => s
  | some (.refuse _ _) => s
  | some (.cut _ _) => s
  | none => s

/-- The bank arbiter takes a removal from the lane of `c` (R108). -/
def State.takeRemoval (s : State) (c : Cyl) : State :=
  match s.message c with
  | some (.removal b id) => (s.popOutbox c).setBank b ((s.bank b).remove id)
  | some (.entry _ _ _) => s
  | some (.accept _ _ _ _) => s
  | some (.refuse _ _) => s
  | some (.cut _ _) => s
  | none => s

/-- The bank arbiter takes an acceptance from the lane of `c` and the drive starts (R110). A grant is made only while the bank
is IDLE and offers itself to that pulse (R110, log 19). -/
def State.takeAccept (s : State) (c : Cyl) (x : Sense) : State :=
  match s.message c with
  | some (.accept b id profile duration) =>
    let s := s.popOutbox c
    if (s.bank b).offers id then
      (s.setBank b ((s.bank b).grant id s.now (s.plan.bankGroup b).preemptDelay)).startDrive b
        (s.plan.driveOf (.scheduled id) id.cyl profile duration) x
    else s
  | some (.entry _ _ _) => s
  | some (.removal _ _) => s
  | some (.refuse _ _) => s
  | some (.cut _ _) => s
  | none => s

/-- The bank arbiter takes a refusal from the lane of `c` (R111). -/
def State.takeRefusal (s : State) (c : Cyl) : State :=
  match s.message c with
  | some (.refuse b id) => (s.popOutbox c).setBank b ((s.bank b).refused id)
  | some (.entry _ _ _) => s
  | some (.removal _ _) => s
  | some (.accept _ _ _ _) => s
  | some (.cut _ _) => s
  | none => s

/-- The bank arbiter takes a cut of `h` on bank `b`: it is handed to the driver sequencer if the bank is HELD by `h`, and has
no effect otherwise (R116). The bank is HELD until the drive end is taken, so a second cut taken before is handed on too
(log 30). -/
def State.cutHolder (s : State) (b : Bank) (h : Holder) : State :=
  if (s.bank b).state = .held ∧ (s.bank b).holder = some h then s.handCut b h else s

/-- The bank arbiter takes a cut from the lane of `c` (R116). -/
def State.takeCut (s : State) (c : Cyl) : State :=
  match s.message c with
  | some (.cut b h) => (s.popOutbox c).cutHolder b h
  | some (.entry _ _ _) => s
  | some (.removal _ _) => s
  | some (.accept _ _ _ _) => s
  | some (.refuse _ _) => s
  | none => s

/-- The oldest report of the slot of bank `b` to the bank arbiter. -/
def State.bankReport (s : State) (b : Bank) : Option BankReport := (s.mailOf b).toBank.head?

/-- The bank arbiter takes a boost end (R103). -/
def State.takeBoostEnd (s : State) (b : Bank) : State :=
  match s.bankReport b with
  | some (.boostEnd moment) => (s.popBankReport b).setBank b ((s.bank b).boostEnded moment (s.plan.bankGroup b).recharge)
  | some .driveEnd => s
  | some .releaseComplete => s
  | none => s

/-- The bank arbiter takes a drive end (R104). -/
def State.bankTakesDriveEnd (s : State) (b : Bank) : State :=
  if s.bankReport b = some .driveEnd then (s.popBankReport b).setBank b (s.bank b).driveEnded else s

/-- The bank arbiter takes a release completion (R105). -/
def State.bankTakesRelease (s : State) (b : Bank) : State :=
  if s.bankReport b = some .releaseComplete then (s.popBankReport b).setBank b (s.bank b).released else s

/-- The recharge of bank `b` expires if it has come to its end (R106). -/
def State.rechargeBank (s : State) (b : Bank) : State := s.setBank b ((s.bank b).recharged s.now)

/-- The preempt timer of bank `b` expires: it stops, and a HELD bank's holder is cut (R115). -/
def State.preempt (s : State) (b : Bank) : State :=
  match (s.bank b).preempt with
  | some t =>
    if t.expiry ≤ s.now then
      match (s.bank b).holder with
      | some h => (s.setBank b { s.bank b with preempt := none }).cutHolder b h
      | none => s.setBank b { s.bank b with preempt := none }
    else s
  | none => s

/-- A bank as a service pulse of `c` starts on it (R120). Entries whose removals are still on their way, and an outstanding
offer to one of them, stand until QUEUE_REMOVAL takes them (log 29). -/
def BankRecord.serve (r : BankRecord) (c : Cyl) : BankRecord :=
  { r with state := .held, holder := some (.service c), recharge := .waiting }

/-! ## Meanings -/

/-- QUEUE_ENTRY (R107). -/
def execQueueEntry (dt : Nat) (c : Cyl) (s : State) : Host.Outcome State Fault Refusal :=
  .next ((s.advance dt).takeEntry c)

/-- QUEUE_REMOVAL (R108). -/
def execQueueRemoval (dt : Nat) (c : Cyl) (s : State) : Host.Outcome State Fault Refusal :=
  .next ((s.advance dt).takeRemoval c)

/-- OFFER_ACCEPT (R110). -/
def execOfferAccept (dt : Nat) (c : Cyl) (x : Sense) (s : State) : Host.Outcome State Fault Refusal :=
  .next ((s.advance dt).takeAccept c x)

/-- OFFER_REFUSAL (R111). -/
def execOfferRefusal (dt : Nat) (c : Cyl) (s : State) : Host.Outcome State Fault Refusal :=
  .next ((s.advance dt).takeRefusal c)

/-- BOOST_END (R103). -/
def execBoostEnd (dt : Nat) (b : Bank) (s : State) : Host.Outcome State Fault Refusal :=
  .next ((s.advance dt).takeBoostEnd b)

/-- BANK_DRIVE_END (R104). -/
def execBankDriveEnd (dt : Nat) (b : Bank) (s : State) : Host.Outcome State Fault Refusal :=
  .next ((s.advance dt).bankTakesDriveEnd b)

/-- BANK_RELEASE_COMPLETE (R105). -/
def execBankReleaseComplete (dt : Nat) (b : Bank) (s : State) : Host.Outcome State Fault Refusal :=
  .next ((s.advance dt).bankTakesRelease b)

/-- RECHARGE_EXPIRY (R106). -/
def execRechargeExpiry (dt : Nat) (b : Bank) (s : State) : Host.Outcome State Fault Refusal :=
  .next ((s.advance dt).rechargeBank b)

/-- PREEMPT_EXPIRY (R115). -/
def execPreemptExpiry (dt : Nat) (b : Bank) (s : State) : Host.Outcome State Fault Refusal :=
  .next ((s.advance dt).preempt b)

/-- BANK_CUT (R116). -/
def execBankCut (dt : Nat) (c : Cyl) (s : State) : Host.Outcome State Fault Refusal :=
  .next ((s.advance dt).takeCut c)

end Sys2Proof.Machine
end

