-- ==== Sys2Proof/Machine/Cycle.lean ====
section
/-! DEFINITION. The cycle unit's lanes: armings, start points, the cylinder gate, grants and the end-limit clip, drops and
outcomes (spec/05_arming_and_cycle_records.md). -/

namespace Sys2Proof.Machine

/-! ## Pulses and records -/

/-- A pulse that is PENDING or DUE (R84). -/
def PulseState.waits : PulseState → Bool
  | .pending => true
  | .due _ _ _ => true
  | .energized _ => false
  | .done => false
  | .cut => false
  | .faulted _ => false
  | .dropped _ => false

/-- A pulse that is DUE with blocker BANK: it stands in its bank's wait queue (R90). -/
def PulseState.inQueue : PulseState → Bool
  | .due _ _ .bank => true
  | .due _ _ .cylinder => false
  | .pending => false
  | .energized _ => false
  | .done => false
  | .cut => false
  | .faulted _ => false
  | .dropped _ => false

/-- A pulse that is DUE with blocker CYLINDER (R90). -/
def PulseState.gated : PulseState → Bool
  | .due _ _ .cylinder => true
  | .due _ _ .bank => false
  | .pending => false
  | .energized _ => false
  | .done => false
  | .cut => false
  | .faulted _ => false
  | .dropped _ => false

/-- A pulse that drives (R84). -/
def PulseState.drives : PulseState → Bool
  | .energized _ => true
  | .pending => false
  | .due _ _ _ => false
  | .done => false
  | .cut => false
  | .faulted _ => false
  | .dropped _ => false

/-- A pulse that has its outcome (R83). -/
def PulseState.final (x : PulseState) : Bool := !x.waits && !x.drives

/-- Every pulse of the record has its outcome (R99). -/
def Record.complete (r : Record) : Bool := r.pulses.all fun p => p.state.final

/-- Some pulse of the record is ENERGIZED. -/
def Record.drives (r : Record) : Bool := r.pulses.any fun p => p.state.drives

/-- The name of the pulse at position `i` of a record of `c` (R102). -/
def Record.pulseId (r : Record) (c : Cyl) (i : Nat) (p : ArmedPulse) : PulseId := ⟨c, r.cycle, i, p.merged.pulse.kind⟩

/-- The record with the pulse at position `i` replaced. -/
def Record.setPulse (r : Record) (i : Nat) (p : ArmedPulse) : Record := { r with pulses := r.pulses.set i p }

/-- The pulse that `id` names, if this is its record. -/
def Record.pulse? (r : Record) (id : PulseId) : Option ArmedPulse :=
  if r.cycle = id.cycle then r.pulses[id.pos]? else none

/-- A waiting pulse is dropped; another is left (R84). -/
def ArmedPulse.drop (reason : DropReason) (p : ArmedPulse) : ArmedPulse :=
  if p.state.waits then { p with state := .dropped reason } else p

/-- The record with every PENDING and DUE pulse dropped. -/
def Record.drop (r : Record) (reason : DropReason) : Record := { r with pulses := r.pulses.map (·.drop reason) }

/-- The waiting pulses of a record. -/
def Record.waiting (r : Record) : List ArmedPulse := r.pulses.filter fun p => p.state.waits

/-- The removals of the pulses of a record that stand in the queue of bank `b` (R108). -/
def Record.removals (r : Record) (b : Bank) (c : Cyl) : List BankMessage :=
  (r.pulses.zipIdx.filter fun x => x.1.state.inQueue).map fun x => .removal b (r.pulseId c x.2 x.1)

/-! ## Closing a record (R99) -/

/-- The current record closes if every pulse of it has its outcome: it becomes the last-outcome record and is freed (R99). -/
def Lane.closeCurrent (l : Lane) : Lane :=
  match l.current with
  | some r => if r.complete then { l with current := none, last := some r } else l
  | none => l

/-- The superseded record closes in the same way (R99). -/
def Lane.closeSuperseded (l : Lane) : Lane :=
  match l.superseded with
  | some r => if r.complete then { l with superseded := none, last := some r } else l
  | none => l

/-! ## The cylinder gate (R91) -/

/-- The gate of the lane is open: the injector is READY and no pulse of the cylinder is in a wait queue (R91). -/
def Lane.gateOpen (l : Lane) : Bool :=
  decide (l.injector = .ready) && !(l.current.elim false fun r => r.pulses.any fun p => p.state.inQueue)

/-- A DUE pulse with its blocker now BANK. -/
def ArmedPulse.enterQueue (p : ArmedPulse) : ArmedPulse :=
  match p.state with
  | .due since deadline _ => { p with state := .due since deadline .bank }
  | .pending => p
  | .energized _ => p
  | .done => p
  | .cut => p
  | .faulted _ => p
  | .dropped _ => p

/-- The due time of a DUE pulse. -/
def PulseState.dueTime : PulseState → Nat
  | .due since _ _ => since
  | .pending => 0
  | .energized _ => 0
  | .done => 0
  | .cut => 0
  | .faulted _ => 0
  | .dropped _ => 0

/-- The earliest DUE pulse with blocker CYLINDER, with its position: positions are in start-angle order (R91). -/
def Record.firstGated (r : Record) : Option (ArmedPulse × Nat) := r.pulses.zipIdx.find? fun x => x.1.state.gated

/-- The turn of an entry that is on its way to the bank arbiter; 0 for another message. -/
def BankMessage.turn : BankMessage → Nat
  | .entry _ _ n => n
  | .removal _ _ => 0
  | .accept _ _ _ _ => 0
  | .refuse _ _ => 0
  | .cut _ _ => 0

/-- The turn of the entry handed over next: past those of all entries on their way (R107). -/
def State.nextTurn (s : State) : Nat :=
  (Cyl.all.flatMap fun c => (s.lane c).outbox.map BankMessage.turn).foldl max 0 + 1

/-- The pulse at position `i` of record `r` is handed to bank `b` (R90, R91). -/
def Lane.enqueue (l : Lane) (b : Bank) (c : Cyl) (turn : Nat) (r : Record) (i : Nat) (p : ArmedPulse) : Lane :=
  { l with current := some (r.setPulse i p.enterQueue) }.send [.entry b ⟨r.pulseId c i p, p.state.dueTime⟩ turn]

/-- While the gate is open, the earliest gated pulse is handed to the bank (R91). -/
def Lane.handOver (l : Lane) (b : Bank) (c : Cyl) (turn : Nat) : Lane :=
  if l.gateOpen then
    match l.current with
    | some r =>
      match r.firstGated with
      | some x => l.enqueue b c turn r x.2 x.1
      | none => l
    | none => l
  else l

/-! ## Drops (R96, R97) -/

/-- The current record with its waiting pulses dropped and taken out of the queue, and closed if nothing of it is left
open. -/
def Lane.dropCurrent (l : Lane) (b : Bank) (c : Cyl) (reason : DropReason) : Lane :=
  match l.current with
  | some r => ({ l with current := some (r.drop reason) }.send (r.removals b c)).closeCurrent
  | none => l

/-- Every PENDING and DUE pulse of the current record of `c` is dropped, and each sets PULSE_DROPPED on its port of origin
(R96, R97, R98). -/
def State.dropWaiting (s : State) (c : Cyl) (reason : DropReason) : State :=
  (s.setLane c ((s.lane c).dropCurrent (s.plan.bankOf c) c reason)).raiseOrigins .pulseDropped
    ((s.lane c).current.elim [] Record.waiting)

/-- An arming in course remembers the first loss of phase taken before its record is made (R86). -/
def Lane.markLoss (l : Lane) (reason : DropReason) : Lane :=
  { l with arming := l.arming.map fun a => { a with loss := a.loss.or (some reason) } }

/-- The reason of the drops that a sync change losing phase causes (R25, R96). -/
def SyncNotice.dropReason (n : SyncNotice) : DropReason := if n.new = .stopped then .stop else .syncLoss

/-- A loss of phase on the lane of `c` (R86, R96). -/
def State.losePhase (s : State) (reason : DropReason) (c : Cyl) : State :=
  let s := s.dropWaiting c reason
  s.setLane c ((s.lane c).markLoss reason)

/-- The cycle unit takes the oldest sync change; one that keeps phase drops nothing (R96). -/
def State.cycleTakesSync (s : State) : State :=
  match s.syncToCycle with
  | [] => s
  | n :: rest =>
    let s := { s with syncToCycle := rest }
    if n.losesPhase then Cyl.all.foldl (fun s c => s.losePhase n.dropReason c) s else s

/-! ## The arming point (R85) -/

/-- The outcome CUT of a pulse that drives, its energized time measured to `now` (R85). -/
def ArmedPulse.cutAt (now : Nat) (p : ArmedPulse) : ArmedPulse :=
  match p.state with
  | .energized granted => { p with state := .cut, energized := now - granted }
  | .pending => p
  | .due _ _ _ => p
  | .done => p
  | .cut => p
  | .faulted _ => p
  | .dropped _ => p

/-- The pulses of a record that drive. -/
def Record.driving (r : Record) : List ArmedPulse := r.pulses.filter fun p => p.state.drives

/-- The cuts of the pulses of a record that drive on bank `b` (R85, R118). -/
def Record.cuts (r : Record) (b : Bank) (c : Cyl) : List BankMessage :=
  (r.pulses.zipIdx.filter fun x => x.1.state.drives).map fun x => .cut b (.scheduled (r.pulseId c x.2 x.1))

/-- Step 1 of an arming: the pulse of the superseded record is CUT, the record closes, and the bank is handed the cut
(R85). -/
def Lane.cutSuperseded (l : Lane) (b : Bank) (c : Cyl) (now : Nat) : Lane :=
  match l.superseded with
  | some r =>
    { l with superseded := none, last := some { r with pulses := r.pulses.map (ArmedPulse.cutAt now) } }.send (r.cuts b c)
  | none => l

/-- Step 2 of an arming: the waiting pulses of the current record are overrun; a record that still drives becomes the
superseded record, another closes (R85). -/
def Lane.overrunCurrent (l : Lane) (b : Bank) (c : Cyl) : Lane :=
  match l.current with
  | some r =>
    let l := l.send (r.removals b c)
    if r.drives then { l with current := none, superseded := some (r.drop .overrun) }
    else { l with current := none, last := some (r.drop .overrun) }
  | none => l

/-- The old cycle of the lane of `c` is closed with its flags (R85 steps 1 and 2, R98). -/
def State.closeOldCycle (s : State) (c : Cyl) : State :=
  let l := s.lane c
  let b := s.plan.bankOf c
  ((s.setLane c ((l.cutSuperseded b c s.now).overrunCurrent b c)).raiseOrigins .pulseCut
    (l.superseded.elim [] Record.driving)).raiseOrigins .pulseDropped (l.current.elim [] Record.waiting)

/-- Step 3 of an arming begins: the notice goes to the table engine with the cycle count as it stands (R86). -/
def State.beginArming (s : State) (c : Cyl) (pos advance : Nat) : State :=
  let s := s.setLane c { s.lane c with arming := some ⟨s.tracker.cycles, pos, advance, none, none⟩ }
  s.setTracker { s.tracker with marks :=
    { s.tracker.marks with armedAt := s.tracker.marks.armedAt.set c (some pos) } }

/-- The arming point of `c` is at hand (R22, R24); the lane has no arming in course (log 10). -/
def State.armingReached (s : State) (w : WorkingCopy) (c : Cyl) : Bool :=
  decide (c.num ≤ w.count) && !(s.lane c).arming.isSome && s.pointReached (s.tracker.nextArming w c)

/-- The arming point of `c` is delivered (R85). A point that is not at hand is not delivered (log 1). -/
def State.armPoint (s : State) (c : Cyl) : State :=
  match s.tracker.copy with
  | some w =>
    if s.armingReached w c then (s.closeOldCycle c).beginArming c (s.tracker.nextArming w c) w.advance else s
  | none => s

/-! ## The record made from the answer (R86) -/

/-- A pulse as an arming makes it (R86). -/
def armedPulse (m : Merged) : ArmedPulse :=
  { merged := m, state := .pending, late := false, clipped := false, earlyPeak := false, energized := 0, lateness := 0 }

/-- The record that an arming makes (R83, R86, R88). -/
def makeRecord (a : Arming) (x : ArmingAnswer) (isolated : Bool) : Record :=
  { cycle := a.cycle
    revision := x.revision
    cutOut := x.cutOut
    isolated := isolated
    pulses := if x.cutOut || isolated then [] else x.entries.map armedPulse
    armPos := a.pos
    advance := a.advance }

/-- The record is placed in the lane; a record of which nothing is open closes at once (R86, R99). -/
def State.placeRecord (s : State) (c : Cyl) (r : Record) : State :=
  s.setLane c { s.lane c with arming := none, current := some r }.closeCurrent

/-- The cycle unit takes the answer for `c` (R86). A loss of phase taken since the arming point drops every pulse of the new
record at once. Without an answer there is nothing to take (log 1). -/
def State.takeAnswer (s : State) (c : Cyl) : State :=
  match (s.lane c).arming with
  | some a =>
    match a.answer with
    | some x =>
      let r := makeRecord a x (s.faultsOf c).isolated
      match a.loss with
      | some reason => (s.placeRecord c (r.drop reason)).raiseOrigins .pulseDropped r.pulses
      | none => s.placeRecord c r
    | none => s
  | none => s

/-! ## Start points, deadlines, dwell (R90, R92, R93) -/

/-- The PENDING pulse becomes DUE with blocker CYLINDER (R90); the gate hands it on if it is open. -/
def ArmedPulse.becomeDue (p : ArmedPulse) (now tolerance : Nat) (late : Bool) : ArmedPulse :=
  { p with state := .due now (now + tolerance) .cylinder, late := late }

/-- The start point of the pulse at `pos` of the current record of `c` is delivered (R90). A point that is not at hand is not
delivered (log 1). -/
def State.startPoint (s : State) (c : Cyl) (pos : Nat) : State :=
  match (s.lane c).current with
  | some r =>
    match r.pulses[pos]? with
    | some p =>
      if p.state = .pending ∧ s.pointReached (r.startPos p) then
        let due := p.becomeDue s.now (s.plan.tolerance p.merged.pulse.kind) (s.tracker.marks.late (r.startPos p))
        s.setLane c ({ s.lane c with current := some (r.setPulse pos due) }.handOver (s.plan.bankOf c) c s.nextTurn)
      else s
    | none => s
  | none => s

/-- The lane after a DUE pulse at position `pos` with the given blocker has received a DROPPED outcome: it leaves the queue if
it stood in it, the record closes if complete, and the gate passes to the next (R91, R93, R94). -/
def Lane.dropDue (l : Lane) (b : Bank) (c : Cyl) (turn : Nat) (r : Record) (pos : Nat) (p : ArmedPulse) (reason : DropReason)
    (leave : List BankMessage) : Lane :=
  (({ l with current := some (r.setPulse pos { p with state := .dropped reason }) }.send leave).closeCurrent).handOver b c turn

/-- The deadline of the DUE pulse at `pos` of the current record of `c` is reached (R93). A pulse that is not DUE, or whose
deadline is not reached, is left (log 1). -/
def State.deadline (s : State) (c : Cyl) (pos : Nat) : State :=
  match (s.lane c).current with
  | some r =>
    match r.pulses[pos]? with
    | some p =>
      match p.state with
      | .due _ limit blocker =>
        if limit ≤ s.now then
          let b := s.plan.bankOf c
          let leave := match blocker with
            | .bank => [BankMessage.removal b (r.pulseId c pos p)]
            | .cylinder => []
          (s.setLane c ((s.lane c).dropDue b c s.nextTurn r pos p (.tolerance blocker) leave)).raise p.merged.port .pulseDropped
        else s
      | .pending => s
      | .energized _ => s
      | .done => s
      | .cut => s
      | .faulted _ => s
      | .dropped _ => s
    | none => s
  | none => s

/-- The dwell end time of `c` is reached: the injector is READY and the gate opens (R91, R92). -/
def State.endDwell (s : State) (c : Cyl) : State :=
  match (s.lane c).injector with
  | .dwell t =>
    if t ≤ s.now then
      s.setLane c ({ s.lane c with injector := .ready }.handOver (s.plan.bankOf c) c s.nextTurn)
    else s
  | .ready => s
  | .driving => s
  | .releasing => s

/-! ## Grant and end-limit clip (R94) -/

/-- What the clip answers: the duration driven and whether it was cut, or none for a refusal. -/
abbrev ClipAnswer := Option (Nat × Bool)

/-- The cylinder-relative angle now reached by a record (R94 step 1). -/
def State.recordAngle (s : State) (r : Record) : Int :=
  ((s.tracker.engineAngle s.now : Int) - (r.armPos : Int)) % 11520 - (r.advance : Int)

/-- Steps 2 to 4 of R94 for a pulse of duration `d` at cylinder-relative angle `angle`, with end limit `limit`, minimum pulse
width `width`, spacing `sp` and last normal period `p`. -/
def clipDuration (angle : Int) (d limit width sp p : Nat) : ClipAnswer :=
  if angle + (quotient (d * sp) p : Int) ≤ (limit : Int) then some (d, false)
  else
    let cut := if angle < (limit : Int) then quotient (((limit : Int) - angle).toNat * p) sp else 0
    if width ≤ cut then some (cut, true) else none

/-- The clip of pulse `p` of record `r` of cylinder `c` (R94). -/
def State.clip (s : State) (c : Cyl) (r : Record) (p : ArmedPulse) : ClipAnswer :=
  clipDuration (s.recordAngle r) p.merged.pulse.duration (s.plan.endLimit c) s.plan.timing.val.minWidth s.tracker.spacing
    s.tracker.lastPeriod

/-- The pulse as granted: ENERGIZED, with its lateness and the duration now held (R94). -/
def ArmedPulse.grant (p : ArmedPulse) (now since duration : Nat) (clipped : Bool) : ArmedPulse :=
  { p with
    merged := { p.merged with pulse := { p.merged.pulse with duration := duration } }
    state := .energized now
    clipped := p.clipped || clipped
    lateness := now - since }

/-- The cycle unit accepts an offer (R94). -/
def State.acceptOffer (s : State) (b : Bank) (id : PulseId) (r : Record) (p : ArmedPulse) (since duration : Nat)
    (clipped : Bool) : State :=
  let l := s.lane id.cyl
  (s.setLane id.cyl ({ l with current := some (r.setPulse id.pos (p.grant s.now since duration clipped)),
                              injector := .driving }.send [.accept b id p.merged.pulse.profile duration])).raiseIf
    clipped p.merged.port .pulseClipped

/-- The cycle unit refuses an offer: DROPPED(END_LIMIT) (R94). -/
def State.refuseOffer (s : State) (b : Bank) (id : PulseId) (r : Record) (p : ArmedPulse) : State :=
  (s.setLane id.cyl ((s.lane id.cyl).dropDue (s.plan.bankOf id.cyl) id.cyl s.nextTurn r id.pos p .endLimit [.refuse b id])).raise
    p.merged.port .pulseDropped

/-- The cycle unit takes the offer of bank `b` (R94). An offer whose pulse is no longer DUE in the queue does not reach it
(R93, R96, R112), nor does one after the pulse's deadline (R93, log 20) or while phase is lost (R96, log 12). -/
def State.takeOffer (s : State) (b : Bank) : State :=
  match (s.bank b).offer with
  | some e =>
    match (s.lane e.id.cyl).current with
    | some r =>
      match r.pulse? e.id with
      | some p =>
        match p.state with
        | .due since limit .bank =>
          if s.tracker.phaseKnown && s.noLossWaiting && decide (s.now ≤ limit) then
            match s.clip e.id.cyl r p with
            | some x => s.acceptOffer b e.id r p since x.1 x.2
            | none => s.refuseOffer b e.id r p
          else s
        | .due _ _ .cylinder => s
        | .pending => s
        | .energized _ => s
        | .done => s
        | .cut => s
        | .faulted _ => s
        | .dropped _ => s
      | none => s
    | none => s
  | none => s

/-! ## Drive end, release completion, isolation (R92, R95, R97) -/

/-- The outcome that a drive end gives (R95). -/
def Cause.outcome : Cause → PulseState
  | .time => .done
  | .cut => .cut
  | .fault k => .faulted k

/-- The pulse after its drive end report (R95). -/
def ArmedPulse.finish (p : ArmedPulse) (cause : Cause) (early : Bool) (ended : Nat) : ArmedPulse :=
  match p.state with
  | .energized granted =>
    { p with state := cause.outcome, energized := ended - granted, earlyPeak := p.earlyPeak || early }
  | .pending => p
  | .due _ _ _ => p
  | .done => p
  | .cut => p
  | .faulted _ => p
  | .dropped _ => p

/-- The record with the drive end of pulse `id` taken, if it is the pulse's record. -/
def Record.finish (r : Record) (id : PulseId) (cause : Cause) (early : Bool) (ended : Nat) : Record :=
  match r.pulse? id with
  | some p => r.setPulse id.pos (p.finish cause early ended)
  | none => r

/-- The pulse `id` in an open record, still ENERGIZED (R95). -/
def Lane.drivenPulse (l : Lane) (id : PulseId) : Option ArmedPulse :=
  ((l.current.bind (·.pulse? id)).filter fun p => p.state.drives).or
    ((l.superseded.bind (·.pulse? id)).filter fun p => p.state.drives)

/-- The lane after the drive end of pulse `id`: the injector is RELEASING, the pulse has its outcome if it was still
ENERGIZED, and its record closes if nothing of it is left open (R92, R95, R99). -/
def Lane.driveEnded (l : Lane) (id : PulseId) (cause : Cause) (early : Bool) (ended : Nat) : Lane :=
  let l := { l with injector := .releasing }
  if (l.drivenPulse id).isSome then
    { l with
      current := l.current.map fun (r : Record) => r.finish id cause early ended
      superseded := l.superseded.map fun (r : Record) => r.finish id cause early ended }.closeSuperseded.closeCurrent
  else l

/-- The port of origin of the driven pulse `id`, if the report gives it the outcome CUT (R95, R98). -/
def Lane.cutPulses (l : Lane) (id : PulseId) (cause : Cause) : List ArmedPulse :=
  if cause = .cut then (l.drivenPulse id).toList else []

/-- The cycle unit takes the drive end report of a scheduled drive on bank `b` (R95). -/
def State.takeDriveEnd (s : State) (b : Bank) : State :=
  match (s.mailOf b).toCycle with
  | .driveEnd (.scheduled id) cause early _ ended :: _ =>
    ((s.popCycleReport b).setLane id.cyl ((s.lane id.cyl).driveEnded id cause early ended)).raiseOrigins .pulseCut
      ((s.lane id.cyl).cutPulses id cause)
  | .driveEnd (.service _) _ _ _ _ :: _ => s
  | .release _ _ _ :: _ => s
  | .isolation _ :: _ => s
  | [] => s

/-- A release completion starts the dwell of an injector that is RELEASING; another is left (R92, R176). -/
def Lane.startDwell (l : Lane) (until_ : Nat) : Lane :=
  if l.injector = .releasing then { l with injector := .dwell until_ } else l

/-- The dwell of `c` counts from its release completion at `moment` (R32, R92, log 15). -/
def State.startDwell (s : State) (c : Cyl) (moment : Nat) : State :=
  s.setLane c ((s.lane c).startDwell (moment + s.plan.timing.val.minDwell))

/-- The cycle unit takes the release completion of a scheduled drive on bank `b` (R92). -/
def State.takeRelease (s : State) (b : Bank) : State :=
  match (s.mailOf b).toCycle with
  | .release (.scheduled id) _ moment :: _ => (s.popCycleReport b).startDwell id.cyl moment
  | .release (.service _) _ _ :: _ => s
  | .driveEnd _ _ _ _ _ :: _ => s
  | .isolation _ :: _ => s
  | [] => s

/-- The cycle unit takes an isolation event handed over on bank `b` (R97). -/
def State.takeIsolation (s : State) (b : Bank) : State :=
  match (s.mailOf b).toCycle with
  | .isolation c :: _ => (s.popCycleReport b).dropWaiting c .isolated
  | .driveEnd _ _ _ _ _ :: _ => s
  | .release _ _ _ :: _ => s
  | [] => s

/-! ## Meanings -/

/-- ARMING_POINT (R85). -/
def execArmingPoint (dt : Nat) (c : Cyl) (s : State) : Host.Outcome State Fault Refusal :=
  .next ((s.advance dt).armPoint c)

/-- ARMING_ANSWER (R86). -/
def execArmingAnswer (dt : Nat) (c : Cyl) (s : State) : Host.Outcome State Fault Refusal :=
  .next ((s.advance dt).takeAnswer c)

/-- START_POINT (R90). -/
def execStartPoint (dt : Nat) (c : Cyl) (pos : Nat) (s : State) : Host.Outcome State Fault Refusal :=
  .next ((s.advance dt).startPoint c pos)

/-- SYNC_CHANGE (R96). -/
def execSyncChange (dt : Nat) (s : State) : Host.Outcome State Fault Refusal := .next (s.advance dt).cycleTakesSync

/-- DEADLINE_EXPIRY (R93). -/
def execDeadlineExpiry (dt : Nat) (c : Cyl) (pos : Nat) (s : State) : Host.Outcome State Fault Refusal :=
  .next ((s.advance dt).deadline c pos)

/-- DWELL_END (R92). -/
def execDwellEnd (dt : Nat) (c : Cyl) (s : State) : Host.Outcome State Fault Refusal :=
  .next ((s.advance dt).endDwell c)

/-- GRANT_OFFER (R94). -/
def execGrantOffer (dt : Nat) (b : Bank) (s : State) : Host.Outcome State Fault Refusal :=
  .next ((s.advance dt).takeOffer b)

/-- CYCLE_DRIVE_END (R95). -/
def execCycleDriveEnd (dt : Nat) (b : Bank) (s : State) : Host.Outcome State Fault Refusal :=
  .next ((s.advance dt).takeDriveEnd b)

/-- CYCLE_RELEASE_COMPLETE (R92). -/
def execCycleReleaseComplete (dt : Nat) (b : Bank) (s : State) : Host.Outcome State Fault Refusal :=
  .next ((s.advance dt).takeRelease b)

/-- ISOLATION_EVENT (R97). -/
def execIsolationEvent (dt : Nat) (b : Bank) (s : State) : Host.Outcome State Fault Refusal :=
  .next ((s.advance dt).takeIsolation b)

end Sys2Proof.Machine
end

