-- ==== Sys2Proof/Machine/Ports.lean ====
section
/-! DEFINITION. The master ports: frames and their check, transactions, the queues, the rotation of the table engine, port
reset and port setup (spec/08_master_ports_frames_and_request_queues.md), and the flag requests
(spec/09_flags_attention_and_table_views.md). -/

namespace Sys2Proof.Machine

/-! ## Frames -/

/-- Byte `k` of a frame, byte 0 being the first on the wire (R144). -/
def wireByte (w : Wire) (k : Nat) : Byte := BitVec.ofNat 8 (w.toNat / 2 ^ (8 * (11 - k)))

/-- Bytes in the order of the wire as one number, the first bit on the wire the most significant (R144). -/
def wireNumber (bytes : List Byte) : Nat := bytes.foldl (fun n b => 256 * n + b.toNat) 0

/-- A frame of twelve bytes in wire order. -/
def wireOf (bytes : List Byte) : Wire := BitVec.ofNat 96 (wireNumber bytes)

/-- One shift of the check register toward its most significant bit (R145 step 3). -/
def crcShift (r : Byte) : Byte := if r.msb then (r <<< 1) ^^^ 0x07#8 else r <<< 1

/-- The check register after one byte (R145 steps 2 and 3). -/
def crcByte (r b : Byte) : Byte :=
  crcShift (crcShift (crcShift (crcShift (crcShift (crcShift (crcShift (crcShift (r ^^^ b))))))))

/-- The check over bytes (R145). -/
def crc (bytes : List Byte) : Byte := bytes.foldl crcByte 0xFF#8

/-- Bytes 0 to 10 of a frame. -/
def checkedBytes (w : Wire) : List Byte :=
  [wireByte w 0, wireByte w 1, wireByte w 2, wireByte w 3, wireByte w 4, wireByte w 5, wireByte w 6, wireByte w 7,
   wireByte w 8, wireByte w 9, wireByte w 10]

/-- The bytes of a received frame match its check byte (R145). -/
def goodFrame (w : Wire) : Bool := decide (crc (checkedBytes w) = wireByte w 11)

/-- The request a frame carries: its code, its tag and its nine parameter bytes (R146, R158). -/
def requestOf (w : Wire) : Request :=
  { code := wireByte w 0
    tag := (wireByte w 1).setWidth 4
    params := BitVec.ofNat 72 (packBits
      [(8, (wireByte w 2).toNat), (8, (wireByte w 3).toNat), (8, (wireByte w 4).toNat), (8, (wireByte w 5).toNat),
       (8, (wireByte w 6).toNat), (8, (wireByte w 7).toNat), (8, (wireByte w 8).toNat), (8, (wireByte w 9).toNat),
       (8, (wireByte w 10).toNat)]) }

/-- The summary byte of port `p` (R158). -/
def State.summary (s : State) (p : Port) : Byte :=
  BitVec.ofNat 8 (packBits
    [(3, syncCode s.tracker.sync), (1, bit (decide (s.tracker.sync = .coasting) && s.tracker.phaseHeld)),
     (1, bit (s.port p).attn), (1, bit (s.port p).hold), (1, bit s.plan.closed), (1, 0)])

/-- The engine angle as a header and ANGLE_READ carry it (R27, R158). -/
def State.angleWord (s : State) : Nat := readAngle s.tracker.phaseKnown (s.tracker.engineAngle s.now)

/-- The idle reply (R143, R166). -/
def PortState.idleReply (q : PortState) : Reply :=
  { code := 0x00#8
    tag := 0
    result := .ok
    data := packData [(16, q.flags.toNat), (16, q.mask.toNat), (8, q.commands.length), (8, 0)] }

/-- The twelve bytes of a reply frame: header, code echo, tag and result, data, check (R158). -/
def State.frameBytes (s : State) (p : Port) (r : Reply) : List Byte :=
  let body : List Byte :=
    [s.summary p, BitVec.ofNat 8 s.angleWord, BitVec.ofNat 8 (s.angleWord / 256), r.code,
     BitVec.ofNat 8 (packBits [(4, r.tag.toNat), (4, resultCode r.result)]),
     BitVec.ofNat 8 r.data.toNat, BitVec.ofNat 8 (r.data.toNat / 2 ^ 8), BitVec.ofNat 8 (r.data.toNat / 2 ^ 16),
     BitVec.ofNat 8 (r.data.toNat / 2 ^ 24), BitVec.ofNat 8 (r.data.toNat / 2 ^ 32), BitVec.ofNat 8 (r.data.toNat / 2 ^ 40)]
  body ++ [crc body]

/-! ## Transactions -/

/-- The reply of a transaction that begins now: the head of the reply queue or the idle reply (R143). -/
def PortState.nextReply (q : PortState) : Reply := q.replies.head?.getD q.idleReply

/-- CS_N of port `p` falls: the frame is fixed (R143). A line that is low already does not fall (log 1). -/
def State.beginTransaction (s : State) (p : Port) : State :=
  let q := s.port p
  match q.txn with
  | .active _ _ => s
  | .idle => s.setPort p { q with txn := .active (wireOf (s.frameBytes p q.nextReply)) (!q.replies.isEmpty) }
  | .complete => s.setPort p { q with txn := .active (wireOf (s.frameBytes p q.nextReply)) (!q.replies.isEmpty) }

/-- The port after PORT_RESET with tag `tag` (R155). Data byte 2 is the number of replies discarded; the rule gives it as 0 to
15, and a transaction that began with the idle reply can find 16 there, which the model then answers (log 28). A flag that a
request of this port set before is cleared with the others (R155, R156), MERGE_EXCLUDED of a PUBLISH too, of which R80 says that
it stands (log 32). -/
def PortState.reset_ (q : PortState) (tag : BitVec 4) : PortState :=
  { q with
    commands := []
    replies := [⟨0x21#8, tag, .ok, dataBytes [q.commands.length, q.replies.length]⟩]
    flags := 0
    mask := BitVec.allOnes 16
    halt := 12
    resume := 4
    hold := false
    attn := false
    cursor := .reset }

/-- PORT_RESET acts at once on port `p` and clears its plan vote (R42, R155). -/
def State.resetPort (s : State) (p : Port) (tag : BitVec 4) : State :=
  (s.setPort p ((s.port p).reset_ tag)).setPlan { s.plan with votes := s.plan.votes.set p false }

/-- A good request other than NONE and PORT_RESET arrives (R146, R150). -/
def PortState.arrive (q : PortState) (r : Request) : PortState :=
  if 16 ≤ q.commands.length then q.raise .queueOverflow
  else { q with commands := q.commands ++ [r] }.holdAfterAppend

/-- The received frame is judged (R146). -/
def State.judgeFrame (s : State) (p : Port) (rx : Wire) : State :=
  if goodFrame rx then
    if wireByte rx 0 = 0x00#8 then s
    else if wireByte rx 0 = 0x21#8 then s.resetPort p (requestOf rx).tag
    else s.setPort p ((s.port p).arrive (requestOf rx))
  else s.raise p .badFrame

/-- The sent reply is removed if it came from the queue, and the exchange is over (R146). -/
def PortState.finishSending (q : PortState) (queued : Bool) : PortState :=
  { q with replies := if queued then q.replies.tail else q.replies, txn := .complete }

/-- A transaction of port `p` completes (R146): the reply is removed, then the received frame is judged. Without a
transaction there is nothing to complete (log 1). -/
def State.completeTransaction (s : State) (p : Port) (rx : Wire) : State :=
  match (s.port p).txn with
  | .active _ queued => (s.setPort p ((s.port p).finishSending queued)).judgeFrame p rx
  | .idle => s
  | .complete => s

/-- CS_N of port `p` rises before completion: the bits are discarded (R147). -/
def State.abandonTransaction (s : State) (p : Port) : State :=
  match (s.port p).txn with
  | .active _ _ => s.setPort p { s.port p with txn := .idle }
  | .idle => s
  | .complete => s

/-- A frame of the given code: its byte 0, then the 88 bits that follow on the wire. -/
def wireWithCode (code : Byte) (rest : BitVec 88) : Wire := code ++ rest

/-! ## The table engine's takings -/

/-- What a request does: the state after it, its result and its reply data (R154). -/
structure Served where
  state : State
  result : Result
  data : Data
deriving DecidableEq, Repr

/-- A request that acted as its rule gives. -/
def served (s : State) (data : Data) : Served := ⟨s, .ok, data⟩

/-- A refusal: no state is changed, and the first data byte carries the check or condition number where the rule gives one,
0 otherwise (R154). -/
def refuse (s : State) (r : Result) (number : Nat := 0) : Served := ⟨s, r, dataBytes [number]⟩

/-- A port is eligible (R153). -/
def PortState.eligible (q : PortState) : Bool := !q.commands.isEmpty && decide (q.replies.length < 16)

/-- The port the table engine takes from next, if any (R153). -/
def State.nextPort (s : State) : Option Port :=
  if (s.port s.lastTaken.other).eligible then some s.lastTaken.other
  else if (s.port s.lastTaken).eligible then some s.lastTaken
  else none

/-- The request the table engine takes next, and its port (R153, R154). -/
def State.nextRequest (s : State) : Option (Port × Request) :=
  s.nextPort.bind fun p => (s.port p).commands.head?.map fun r => (p, r)

/-- The head of the command queue of port `p` is taken (R150, R153, R154). -/
def State.takeHead (s : State) (p : Port) : State :=
  { s.setPort p { s.port p with commands := (s.port p).commands.tail }.holdAfterRemoval with lastTaken := p }

/-- The reply is placed in the reply queue of port `p` (R149, R154). -/
def State.answer (s : State) (p : Port) (r : Reply) : State :=
  s.setPort p { s.port p with replies := (s.port p).replies ++ [r] }

/-- A taking of request `r` of port `p`, whose rule is `act` (R154). -/
def State.takeRequest (s : State) (p : Port) (r : Request) (act : Port → Params → State → Served) : State :=
  let v := act p r.params (s.takeHead p)
  v.state.answer p ⟨r.code, r.tag, v.result, v.data⟩

/-- The table engine takes its next request if that is one of the codes `mine`; a command that names another request than
the next one takes nothing (log 1, log 16). -/
def State.serve (s : State) (mine : Byte → Bool) (act : Port → Params → State → Served) :
    Host.Outcome State Fault Refusal :=
  match s.nextRequest with
  | some (p, r) => if mine r.code then .next (s.takeRequest p r act) else .next s
  | none => .next s

/-- The code is listed in the index of section 8.7. -/
def knownCode (c : Byte) : Bool :=
  [0x00#8, 0x01#8, 0x02#8, 0x03#8, 0x04#8, 0x05#8, 0x06#8, 0x07#8, 0x08#8, 0x09#8, 0x0A#8, 0x10#8, 0x11#8, 0x12#8, 0x13#8,
   0x14#8, 0x18#8, 0x19#8, 0x1C#8, 0x1D#8, 0x20#8, 0x21#8, 0x28#8, 0x29#8, 0x2A#8, 0x2B#8, 0x2C#8].contains c

/-! ## Requests on the port itself -/

/-- The port with the levels and the mask of a PORT_SETUP; HOLD_N and ATTN_N follow (R152, R165). -/
def PortState.setup (q : PortState) (halt resume : Nat) (mask : BitVec 16) : PortState :=
  let depth := q.commands.length
  { q with
    halt := halt
    resume := resume
    mask := mask
    hold := if halt ≤ depth then true else if depth ≤ resume then false else q.hold
    attn := attention q.flags mask }

/-- PORT_SETUP (R152). Where both its checks fail the first is answered (log 31). -/
def portSetup (p : Port) (ps : Params) (s : State) : Served :=
  let halt := field ps 0 5
  let resume := field ps 5 4
  let mask := BitVec.ofNat 16 (field ps 9 16)
  match firstFailure [decide (2 ≤ halt ∧ halt ≤ 16), decide (resume < halt)] with
  | some n => refuse s .range n
  | none =>
    let q := (s.port p).setup halt resume mask
    served (s.setPort p q)
      (packData [(8, halt), (8, resume), (16, mask.toNat), (8, q.commands.length), (8, bit q.hold)])

/-- FLAGS_READ (R163). -/
def flagsRead (p : Port) (_ps : Params) (s : State) : Served :=
  let q := s.port p
  served s (packData [(16, q.flags.toNat), (16, q.mask.toNat), (8, bit q.attn), (8, 0)])

/-- FLAGS_CLEAR (R164). -/
def flagsClear (p : Port) (ps : Params) (s : State) : Served :=
  let q := s.port p
  let after := q.flags &&& ~~~(BitVec.ofNat 16 (field ps 0 16))
  served (s.setPort p (q.withFlags after)) (packData [(16, q.flags.toNat), (16, after.toNat), (16, 0)])

/-! ## Meanings -/

/-- TRANSACTION_BEGIN (R143). -/
def execTransactionBegin (dt : Nat) (p : Port) (s : State) : Host.Outcome State Fault Refusal :=
  .next ((s.advance dt).beginTransaction p)

/-- TRANSACTION_COMPLETE (R146). -/
def execTransactionComplete (dt : Nat) (p : Port) (rx : Wire) (s : State) : Host.Outcome State Fault Refusal :=
  .next ((s.advance dt).completeTransaction p rx)

/-- SHORT_TRANSACTION (R147): the bits received are discarded, whatever they hold. -/
def execShortTransaction (dt : Nat) (p : Port) (_bits : List Bool) (s : State) : Host.Outcome State Fault Refusal :=
  .next ((s.advance dt).abandonTransaction p)

/-- NONE (R146): the completion of a frame with code 0x00. -/
def execNoneFrame (dt : Nat) (p : Port) (rest : BitVec 88) (s : State) : Host.Outcome State Fault Refusal :=
  .next ((s.advance dt).completeTransaction p (wireWithCode 0x00#8 rest))

/-- PORT_RESET (R155): the completion of a frame with code 0x21. -/
def execPortReset (dt : Nat) (p : Port) (rest : BitVec 88) (s : State) : Host.Outcome State Fault Refusal :=
  .next ((s.advance dt).completeTransaction p (wireWithCode 0x21#8 rest))

/-- UNKNOWN_REQUEST (R154): all data 0, and no other effect. -/
def execUnknownRequest (dt : Nat) (s : State) : Host.Outcome State Fault Refusal :=
  (s.advance dt).serve (fun c => !knownCode c) fun _ _ s => refuse s .unknown

/-- PORT_SETUP (R152). -/
def execPortSetup (dt : Nat) (s : State) : Host.Outcome State Fault Refusal :=
  (s.advance dt).serve (· == 0x20#8) portSetup

/-- FLAGS_READ (R163). -/
def execFlagsRead (dt : Nat) (s : State) : Host.Outcome State Fault Refusal :=
  (s.advance dt).serve (· == 0x28#8) flagsRead

/-- FLAGS_CLEAR (R164). -/
def execFlagsClear (dt : Nat) (s : State) : Host.Outcome State Fault Refusal :=
  (s.advance dt).serve (· == 0x29#8) flagsClear

end Sys2Proof.Machine
end

