-- ==== Sys2Proof/Machine/Plan.lean ====
section
/-! DEFINITION. The engine plan: writing, reading, closing and reopening it (spec/02_the_engine_plan.md). -/

namespace Sys2Proof.Machine

/-! ## Writing a group (R28, R29) -/

/-- The three steps of a PLAN_SET_* request (R29): the plan state, the index (`write` is none outside its range), and the
fields. A request that passes writes the group instance whole and sets its mark (R28). -/
def planWrite (s : State) (write : Option (Plan → Plan)) (fieldsOk : Bool) : Served :=
  if s.plan.closed then refuse s .planClosed
  else
    match write with
    | none => refuse s .range
    | some w => if fieldsOk then served (s.setPlan (w s.plan)) 0 else refuse s .range

/-- `lo` to `hi`, inclusive. -/
def within (lo hi v : Nat) : Bool := decide (lo ≤ v ∧ v ≤ hi)

/-- The engine group in the parameters (R30). -/
def engineOf (ps : Params) : EnginePlan :=
  { count := field ps 0 4, teeth := field ps 4 7, missing := field ps 11 2, gapRatio := field ps 13 6,
    cam0 := decide (field ps 19 1 = 1) }

/-- The ranges of the engine group (R30). -/
def EnginePlan.inRange (e : EnginePlan) : Bool :=
  within 1 8 e.count && within 12 72 e.teeth && decide (5760 % e.teeth = 0) && within 1 3 e.missing && within 10 32 e.gapRatio

/-- PLAN_SET_ENGINE (R30). -/
def planSetEngine (_p : Port) (ps : Params) (s : State) : Served :=
  let e := engineOf ps
  planWrite s (some fun pl => { pl with engine := ⟨true, e⟩ }) e.inRange

/-- The cylinder group in the parameters (R31). -/
def cylinderOf (ps : Params) : CylinderPlan :=
  { tdc := field ps 4 14, bank := fourOf (field ps 18 2), endLimit := field ps 20 14 }

/-- The ranges of a cylinder group (R31). -/
def CylinderPlan.inRange (g : CylinderPlan) : Bool := within 0 11519 g.tdc && within 1 8640 g.endLimit

/-- PLAN_SET_CYLINDER (R31). -/
def planSetCylinder (_p : Port) (ps : Params) (s : State) : Served :=
  let g := cylinderOf ps
  planWrite s ((cylOf (field ps 0 4)).map fun c pl => { pl with cylinder := pl.cylinder.set c ⟨true, g⟩ }) g.inRange

/-- The timing group in the parameters (R32). -/
def timingOf (ps : Params) : TimingPlan :=
  { advance := field ps 0 13, minSeparation := field ps 13 9, minWidth := field ps 22 9, minDwell := field ps 31 11 }

/-- The ranges of the timing group (R32). -/
def TimingPlan.inRange (g : TimingPlan) : Bool :=
  within 2880 5760 g.advance && within 16 480 g.minSeparation && within 60 500 g.minWidth && within 50 2000 g.minDwell

/-- PLAN_SET_TIMING (R32). -/
def planSetTiming (_p : Port) (ps : Params) (s : State) : Served :=
  let g := timingOf ps
  planWrite s (some fun pl => { pl with timing := ⟨true, g⟩ }) g.inRange

/-- The kind group in the parameters (R33). -/
def kindGroupOf (ps : Params) : KindPlan := { tolerance := field ps 3 11, tiePort := portOf (field ps 14 1) }

/-- PLAN_SET_KIND (R33). -/
def planSetKind (_p : Port) (ps : Params) (s : State) : Served :=
  let g := kindGroupOf ps
  planWrite s ((kindOf (field ps 0 3)).map fun k pl => { pl with kind := pl.kind.set k ⟨true, g⟩ }) (within 0 2000 g.tolerance)

/-- The bank group in the parameters (R34). -/
def bankGroupOf (ps : Params) : BankPlan := { recharge := field ps 2 12, preemptDelay := field ps 14 9 }

/-- PLAN_SET_BANK (R34). -/
def planSetBank (_p : Port) (ps : Params) (s : State) : Served :=
  let g := bankGroupOf ps
  planWrite s (some fun pl => { pl with bank := pl.bank.set (fourOf (field ps 0 2)) ⟨true, g⟩ })
    (within 0 3000 g.recharge && within 0 500 g.preemptDelay)

/-- The profile group in the parameters (R35). -/
def profileOf (ps : Params) : ProfilePlan :=
  { peak := field ps 2 9, peakLimit := field ps 11 10, minPeak := field ps 21 10, hold := field ps 31 8,
    holdLoss := field ps 39 8, releaseLimit := field ps 47 9, trip := field ps 56 9 }

/-- The ranges of a profile group and the three relations inside it (R35). -/
def ProfilePlan.inRange (g : ProfilePlan) : Bool :=
  within 50 300 g.peak && within 20 1000 g.peakLimit && decide (g.minPeak < g.peakLimit) && within 10 150 g.hold &&
    decide (g.hold < g.peak) && within 5 200 g.holdLoss && within 10 500 g.releaseLimit && decide (g.peak < g.trip) &&
    decide (g.trip ≤ 400)

/-- PLAN_SET_PROFILE (R35). -/
def planSetProfile (_p : Port) (ps : Params) (s : State) : Served :=
  let g := profileOf ps
  planWrite s (some fun pl => { pl with profile := pl.profile.set (fourOf (field ps 0 2)) ⟨true, g⟩ }) g.inRange

/-- The limits group in the parameters (R36). -/
def limitsOf (ps : Params) : LimitsPlan :=
  { coast := field ps 0 4, phaseMiss := field ps 4 4, stallMs := field ps 8 10, isolation := field ps 18 4,
    freshness := ⟨field ps 22 8, field ps 30 8⟩ }

/-- The ranges of the limits group (R36). -/
def LimitsPlan.inRange (g : LimitsPlan) : Bool :=
  within 1 8 g.coast && within 1 8 g.phaseMiss && within 50 1000 g.stallMs && within 1 15 g.isolation &&
    within 0 255 g.freshness.a && within 0 255 g.freshness.b

/-- PLAN_SET_LIMITS (R36). -/
def planSetLimits (_p : Port) (ps : Params) (s : State) : Served :=
  let g := limitsOf ps
  planWrite s (some fun pl => { pl with limits := ⟨true, g⟩ }) g.inRange

/-! ## Reading (R37) -/

/-- The plan's status bits, bit 0 being the set mark of an instance (R37, R40). -/
def Plan.status (pl : Plan) (isSet : Bool) : List (Nat × Nat) :=
  [(1, bit isSet), (1, bit pl.closed), (1, bit pl.votes.a), (1, bit pl.votes.b)]

/-- The fields of an instance, all 0 while it is unset (R37). -/
def Plan.readFields (pl : Plan) (isSet : Bool) (fields : List (Nat × Nat)) : Data :=
  packData (pl.status isSet ++ if isSet then fields else [])

def EnginePlan.fields (e : EnginePlan) : List (Nat × Nat) :=
  [(4, e.count), (7, e.teeth), (2, e.missing), (6, e.gapRatio), (1, bit e.cam0)]

def CylinderPlan.fields (g : CylinderPlan) : List (Nat × Nat) := [(14, g.tdc), (2, g.bank.num), (14, g.endLimit)]

def TimingPlan.fields (g : TimingPlan) : List (Nat × Nat) :=
  [(13, g.advance), (9, g.minSeparation), (9, g.minWidth), (11, g.minDwell)]

def KindPlan.fields (g : KindPlan) : List (Nat × Nat) := [(11, g.tolerance), (1, g.tiePort.num)]

def BankPlan.fields (g : BankPlan) : List (Nat × Nat) := [(12, g.recharge), (9, g.preemptDelay)]

/-- Part 0 and part 1 of a profile group (R37). -/
def ProfilePlan.fields (g : ProfilePlan) (part1 : Bool) : List (Nat × Nat) :=
  if part1 then [(8, g.holdLoss), (9, g.releaseLimit), (9, g.trip)]
  else [(9, g.peak), (10, g.peakLimit), (10, g.minPeak), (8, g.hold)]

def LimitsPlan.fields (g : LimitsPlan) : List (Nat × Nat) :=
  [(4, g.coast), (4, g.phaseMiss), (10, g.stallMs), (4, g.isolation), (8, g.freshness.a), (8, g.freshness.b)]

/-- The data of one group instance: none for group 7 and for an index outside the group's range (R37). -/
def Plan.read (pl : Plan) (group index part : Nat) : Option Data :=
  match group with
  | 0 => some (pl.readFields pl.engine.isSet pl.engine.val.fields)
  | 1 => (cylOf index).map fun c => pl.readFields (pl.cylinder.get c).isSet (pl.cylinder.get c).val.fields
  | 2 => some (pl.readFields pl.timing.isSet pl.timing.val.fields)
  | 3 => (kindOf index).map fun k => pl.readFields (pl.kind.get k).isSet (pl.kind.get k).val.fields
  | 4 => if index < 4 then
      some (pl.readFields (pl.bank.get (fourOf index)).isSet (pl.bank.get (fourOf index)).val.fields)
    else none
  | 5 => if index < 4 then
      some (pl.readFields (pl.profile.get (fourOf index)).isSet
        ((pl.profile.get (fourOf index)).val.fields (decide (part = 1))))
    else none
  | 6 => some (pl.readFields pl.limits.isSet pl.limits.val.fields)
  | _ => none

/-- PLAN_READ (R37). -/
def planRead (_p : Port) (ps : Params) (s : State) : Served :=
  match s.plan.read (field ps 0 3) (field ps 3 4) (field ps 7 1) with
  | some d => served s d
  | none => refuse s .range

/-! ## Closing (R38, R39) -/

/-- Cylinders 1 to the plan's cylinder count. -/
def Plan.cylinders (pl : Plan) : List Cyl := Cyl.all.filter fun c => decide (c.num ≤ pl.count)

/-- The ten checks of PLAN_CLOSE, in order (R38). -/
def Plan.closeChecks (pl : Plan) : List Bool :=
  [pl.engine.isSet,
   pl.timing.isSet,
   pl.limits.isSet,
   pl.kind.main.isSet && pl.kind.pilot.isSet && pl.kind.after.isSet && pl.kind.post.isSet,
   pl.cylinders.all fun c => (pl.cylinder.get c).isSet,
   pl.cylinders.all fun c => (pl.bank.get (pl.bankOf c)).isSet,
   pl.profile.i0.isSet,
   pl.cylinders.all fun c => pl.cylinders.all fun d =>
     decide (c = d) || decide ((pl.cylinder.get c).val.tdc ≠ (pl.cylinder.get d).val.tdc),
   pl.cylinders.all fun c => decide (pl.endLimit c + pl.timing.val.advance ≤ 11456),
   decide (4 * pl.engine.val.missing < pl.engine.val.teeth)]

/-- A successful PLAN_CLOSE (R39). -/
def State.closePlan (s : State) : State :=
  ((s.setPlan { s.plan with closed := true }).loadWorkingCopy).raiseBoth .planChange

/-- PLAN_CLOSE (R38). -/
def planClose (_p : Port) (_ps : Params) (s : State) : Served :=
  if s.plan.closed then refuse s .planClosed
  else
    match firstFailure s.plan.closeChecks with
    | some n => refuse s .planInvalid n
    | none => served s.closePlan 0

/-! ## Reopening (R40, R41, R42) -/

/-- The answer of an arming is on its way to the lane with pulses that its record will hold open: the list is not empty, the
cylinder not cut out, and no loss of phase has been taken since the arming point (R86). -/
def Lane.pulsesUnderWay (l : Lane) : Bool :=
  l.arming.elim false fun a => a.loss.isNone && a.answer.elim false fun x => !x.cutOut && !x.entries.isEmpty

/-- A lane has an open record, current or superseded (R82, R100). -/
def Lane.hasOpenRecord (l : Lane) : Bool := l.current.isSome || l.superseded.isSome

/-- The message is the acceptance of an offer of bank `b`. -/
def BankMessage.accepts (b : Bank) : BankMessage → Bool
  | .accept b' _ _ _ => decide (b' = b)
  | .entry _ _ _ => false
  | .removal _ _ => false
  | .refuse _ _ => false
  | .cut _ _ => false

/-- Bank `b` is IDLE, and no acceptance of its offer is on its way to make it HELD (R40, R94, R175, log 27). Removals on their
way do not count: the bank may still hold entries, and an offer, of records that have closed (log 29). -/
def State.bankAtRest (s : State) (b : Bank) : Bool :=
  decide ((s.bank b).state = .idle) && !Cyl.all.any fun c => (s.lane c).outbox.any (BankMessage.accepts b)

/-- No cylinder has an armed record open, current or superseded (R40, R175). -/
def State.noOpenRecord (s : State) : Bool := Cyl.all.all fun c => !(s.lane c).hasOpenRecord

/-- No answer with pulses is on its way to a lane (R40, log 27). -/
def State.noPulsesUnderWay (s : State) : Bool := Cyl.all.all fun c => !(s.lane c).pulsesUnderWay

/-- The five conditions of PLAN_OPEN, in order (R40). -/
def State.openConditions (s : State) : List Bool :=
  [s.plan.closed,
   decide (s.tracker.sync = .stopped),
   s.noOpenRecord && s.noPulsesUnderWay,
   !s.service.inProgress.isSome,
   Four.all.all s.bankAtRest]

/-- The firing tables after the plan opens: staging empty, contributions ABSENT, lists empty under a revision one higher,
cut-out masks 0 (R41, R78). -/
def Tables.reopened (t : Tables) : Tables :=
  { staging := Tables.reset.staging
    contributions := Tables.reset.contributions
    active := ⟨⟨[], t.active.c1.revision + 1⟩, ⟨[], t.active.c2.revision + 1⟩, ⟨[], t.active.c3.revision + 1⟩,
               ⟨[], t.active.c4.revision + 1⟩, ⟨[], t.active.c5.revision + 1⟩, ⟨[], t.active.c6.revision + 1⟩,
               ⟨[], t.active.c7.revision + 1⟩, ⟨[], t.active.c8.revision + 1⟩⟩
    cutOut := Tables.reset.cutOut }

/-- The plan opens on the second vote (R41). -/
def State.reopenPlan (s : State) : State :=
  ((s.setPlan { s.plan with closed := false, votes := .fill false }).setTables s.tables.reopened).raiseBoth .planChange

/-- The vote of port `p` is taken with all conditions holding (R40). -/
def State.vote (s : State) (p : Port) : State :=
  if s.plan.votes.get p.other then s.reopenPlan
  else s.setPlan { s.plan with votes := s.plan.votes.set p true }

/-- PLAN_OPEN (R40). -/
def planOpen (p : Port) (_ps : Params) (s : State) : Served :=
  match firstFailure s.openConditions with
  | some n => refuse s .state n
  | none => served (s.vote p) (packData ((s.vote p).plan.status false))

/-! ## Meanings -/

/-- PLAN_SET_ENGINE (R30). -/
def execPlanSetEngine (dt : Nat) (s : State) : Host.Outcome State Fault Refusal :=
  (s.advance dt).serve (· == 0x01#8) planSetEngine

/-- PLAN_SET_CYLINDER (R31). -/
def execPlanSetCylinder (dt : Nat) (s : State) : Host.Outcome State Fault Refusal :=
  (s.advance dt).serve (· == 0x02#8) planSetCylinder

/-- PLAN_SET_TIMING (R32). -/
def execPlanSetTiming (dt : Nat) (s : State) : Host.Outcome State Fault Refusal :=
  (s.advance dt).serve (· == 0x03#8) planSetTiming

/-- PLAN_SET_KIND (R33). -/
def execPlanSetKind (dt : Nat) (s : State) : Host.Outcome State Fault Refusal :=
  (s.advance dt).serve (· == 0x04#8) planSetKind

/-- PLAN_SET_BANK (R34). -/
def execPlanSetBank (dt : Nat) (s : State) : Host.Outcome State Fault Refusal :=
  (s.advance dt).serve (· == 0x05#8) planSetBank

/-- PLAN_SET_PROFILE (R35). -/
def execPlanSetProfile (dt : Nat) (s : State) : Host.Outcome State Fault Refusal :=
  (s.advance dt).serve (· == 0x06#8) planSetProfile

/-- PLAN_SET_LIMITS (R36). -/
def execPlanSetLimits (dt : Nat) (s : State) : Host.Outcome State Fault Refusal :=
  (s.advance dt).serve (· == 0x07#8) planSetLimits

/-- PLAN_READ (R37). -/
def execPlanRead (dt : Nat) (s : State) : Host.Outcome State Fault Refusal :=
  (s.advance dt).serve (· == 0x08#8) planRead

/-- PLAN_CLOSE (R38). -/
def execPlanClose (dt : Nat) (s : State) : Host.Outcome State Fault Refusal :=
  (s.advance dt).serve (· == 0x09#8) planClose

/-- PLAN_OPEN (R40). -/
def execPlanOpen (dt : Nat) (s : State) : Host.Outcome State Fault Refusal :=
  (s.advance dt).serve (· == 0x0A#8) planOpen

/-- The table engine takes the oldest sync change; one that leaves STOPPED clears both votes (R25, R42). -/
def State.tableTakesSync (s : State) : State :=
  match s.syncToTable with
  | [] => s
  | n :: rest =>
    let s := { s with syncToTable := rest }
    if n.old = .stopped then s.setPlan { s.plan with votes := .fill false } else s

/-- SYNC_CHANGE_TABLE_ENGINE (R42). -/
def execSyncChangeTableEngine (dt : Nat) (s : State) : Host.Outcome State Fault Refusal :=
  .next (s.advance dt).tableTakesSync

end Sys2Proof.Machine
end

