-- ==== Sys2Proof/Machine/Merge.lean ====
section
/-! DEFINITION. The merge of the two ports' contributions into a cylinder's active list
(spec/04_merging_contributions_into_active_lists.md). -/

namespace Sys2Proof.Machine

/-! ## Candidates and their ranking -/

/-- The pulses a contribution gives to the merge: all of a LIVE one, none of another (R64). -/
def Contribution.candidates (k : Contribution) (p : Port) : List Merged :=
  if k.state = .live then Four.all.filterMap fun i => (k.pulses.get i).map fun u => ⟨u, p, i⟩ else []

/-- The tie port of a kind (R66). -/
def Plan.tiePort (pl : Plan) (k : Kind) : Port := (pl.kind.get k).val.tiePort

/-- Candidate `x` ranks before candidate `y`: the first of the four keys in which they differ decides (R65). -/
def Plan.ranksBefore (pl : Plan) (x y : Merged) : Bool :=
  if kindRank x.pulse.kind ≠ kindRank y.pulse.kind then decide (kindRank y.pulse.kind < kindRank x.pulse.kind)
  else if x.port ≠ y.port then decide (x.port = pl.tiePort x.pulse.kind)
  else if x.pulse.start ≠ y.pulse.start then decide (x.pulse.start < y.pulse.start)
  else decide (x.slot.num < y.slot.num)

/-- Inserts `x` before the first element it precedes. -/
def insertBy (before : Merged → Merged → Bool) (x : Merged) : List Merged → List Merged
  | [] => [x]
  | y :: rest => if before x y then x :: y :: rest else y :: insertBy before x rest

/-- Sorts by an order. -/
def sortBy (before : Merged → Merged → Bool) : List Merged → List Merged
  | [] => []
  | x :: rest => insertBy before x (sortBy before rest)

/-! ## Accepting and excluding -/

/-- Two pulses start closer than the minimum separation (R69). -/
def Plan.tooClose (pl : Plan) (x y : Merged) : Bool :=
  decide ((x.pulse.start - y.pulse.start).natAbs < pl.timing.val.minSeparation)

/-- The verdict on a candidate, given those accepted before it (R67). -/
def Plan.judge (pl : Plan) (accepted : List Merged) (m : Merged) : Verdict :=
  if 6 ≤ accepted.length then .excluded .limit
  else if accepted.any (pl.tooClose m) then .excluded .spacing
  else if m.pulse.kind = .main ∧ accepted.any (fun a => decide (a.pulse.kind = .main)) then .excluded .secondMain
  else .accepted

/-- The candidates taken one at a time in ranking order, each with its verdict (R67). -/
def Plan.judgeAll (pl : Plan) (accepted : List Merged) : List Merged → List (Merged × Verdict)
  | [] => []
  | m :: rest =>
    let v := pl.judge accepted m
    (m, v) :: pl.judgeAll (if v = .accepted then m :: accepted else accepted) rest

/-- The verdicts of a merge (R64 to R70). -/
def Plan.verdicts (pl : Plan) (ka kb : Contribution) : List (Merged × Verdict) :=
  pl.judgeAll [] (sortBy pl.ranksBefore (ka.candidates .a ++ kb.candidates .b))

/-- The order of an active list: start angle, earliest first (R71). -/
def startsBefore (x y : Merged) : Bool := decide (x.pulse.start < y.pulse.start)

/-- The accepted candidates of judged ones. -/
def acceptedOf (vs : List (Merged × Verdict)) : List Merged :=
  vs.filterMap fun v => if v.2 = .accepted then some v.1 else none

/-- The active list that two contributions stand for under the plan (R63, R71). -/
def Plan.mergeList (pl : Plan) (ka kb : Contribution) : List Merged := sortBy startsBefore (acceptedOf (pl.verdicts ka kb))

/-- The verdict on the pulse at position `i` of the contribution of port `p`. -/
def verdictAt (vs : List (Merged × Verdict)) (p : Port) (i : SlotIx) : Option Verdict :=
  (vs.find? fun v => decide (v.1.port = p ∧ v.1.slot = i)).map (·.2)

/-- A LIVE contribution receives the verdicts of a merge; another keeps its own (R72). -/
def Contribution.withVerdicts (k : Contribution) (vs : List (Merged × Verdict)) (p : Port) : Contribution :=
  if k.state = .live then
    { k with verdicts := ⟨verdictAt vs p .i0, verdictAt vs p .i1, verdictAt vs p .i2, verdictAt vs p .i3⟩ }
  else k

/-- A verdict is EXCLUDED. -/
def isExcluded : Option Verdict → Bool
  | some (.excluded _) => true
  | some .accepted => false
  | none => false

/-- A pulse is newly excluded: its verdict is EXCLUDED and its previous verdict was ACCEPTED or none (R73). -/
def newlyExcluded (before after : Contribution) : Bool :=
  Four.all.any fun i => isExcluded (after.verdicts.get i) && !isExcluded (before.verdicts.get i)

/-- Some pulse of the contribution carries the verdict EXCLUDED (R52). -/
def Contribution.hasExcluded (k : Contribution) : Bool := Four.all.any fun i => isExcluded (k.verdicts.get i)

/-! ## Recomputation -/

/-- The contributions and the active list of `c` after a recomputation (R62, R71, R72). -/
def Tables.recompute (t : Tables) (pl : Plan) (c : Cyl) : Tables :=
  let ka := t.contribution .a c
  let kb := t.contribution .b c
  let vs := pl.verdicts ka kb
  ((t.setContribution .a c (ka.withVerdicts vs .a)).setContribution .b c (kb.withVerdicts vs .b)).setActive c
    ⟨pl.mergeList ka kb, (t.active.get c).revision + 1⟩

/-- A recomputation of the active list of `c`, which flags each port that has a newly excluded pulse (R62, R74). -/
def State.recompute (s : State) (c : Cyl) : State :=
  let t := s.tables.recompute s.plan c
  ((s.setTables t).raiseIf (newlyExcluded (s.tables.contribution .a c) (t.contribution .a c)) .a .mergeExcluded).raiseIf
    (newlyExcluded (s.tables.contribution .b c) (t.contribution .b c)) .b .mergeExcluded

end Sys2Proof.Machine
end

