-- ==== Sys2Proof/Machine/Staging.lean ====
section
/-! DEFINITION. Staging, publishing, withdrawing, cut-out masks, and the table engine's side of an arming
(spec/03_staging_and_publishing.md, spec/05_arming_and_cycle_records.md R89). -/

namespace Sys2Proof.Machine

/-! ## Staging -/

/-- Bits 0 to 3 of a reply: the slots of a cylinder that hold a pulse (R46). -/
def occupied (q : Quad (Option Pulse)) : Nat := packBits (Four.all.map fun i => (1, bit (q.get i).isSome))

/-- The cylinder is from 1 to the plan's cylinder count (R45, R47, R175). -/
def Plan.hasCylinder (pl : Plan) (n : Nat) : Bool := decide (1 ≤ n ∧ n ≤ pl.count)

/-- The eight checks of STAGE_PULSE, in order, for cylinder number `n`, kind code `k` and the other fields (R45). -/
def Plan.stageChecks (pl : Plan) (n k : Nat) (profile : ProfileIx) (start : Int) (duration : Nat) : List Bool :=
  [pl.hasCylinder n,
   decide (1 ≤ k ∧ k ≤ 4),
   (pl.profile.get profile).isSet,
   decide (pl.timing.val.minWidth ≤ duration),
   decide (duration ≤ 20000),
   decide (-(pl.timing.val.advance : Int) + 64 ≤ start),
   decide (start ≤ 6720 ∧ start ≤ 11456 - (pl.timing.val.advance : Int)),
   (cylOf n).elim false fun c => decide (start < (pl.endLimit c : Int))]

/-- The port's slot `i` of cylinder `c` holds `u` afterwards (R46, R47). -/
def State.writeSlot (s : State) (p : Port) (c : Cyl) (i : SlotIx) (u : Option Pulse) : State :=
  s.setTables (s.tables.setStaged p c ((s.tables.staged p c).set i u))

/-- The slot is written and the reply shows the occupied slots (R46, R47). -/
def slotWritten (s : State) (p : Port) (c : Cyl) (i : SlotIx) (u : Option Pulse) : Served :=
  let s := s.writeSlot p c i u
  served s (dataBytes [occupied (s.tables.staged p c)])

/-- STAGE_PULSE (R45, R46). -/
def stagePulse (p : Port) (ps : Params) (s : State) : Served :=
  let n := field ps 0 4
  let slot := fourOf (field ps 4 2)
  let k := field ps 6 3
  let profile := fourOf (field ps 9 2)
  let start := signedField ps 11 14
  let duration := field ps 25 15
  if s.plan.closed then
    match firstFailure (s.plan.stageChecks n k profile start duration), cylOf n, kindOf k with
    | none, some c, some kind => slotWritten s p c slot (some ⟨kind, profile, start, duration⟩)
    | some m, _, _ => refuse s .range m
    | none, none, _ => refuse s .range 1
    | none, some _, none => refuse s .range 2
  else refuse s .planOpen

/-- CLEAR_SLOT (R47). -/
def clearSlot (p : Port) (ps : Params) (s : State) : Served :=
  let n := field ps 0 4
  if s.plan.closed then
    match s.plan.hasCylinder n, cylOf n with
    | true, some c => slotWritten s p c (fourOf (field ps 4 2)) none
    | true, none => refuse s .range 1
    | false, _ => refuse s .range 1
  else refuse s .planOpen

/-! ## Requests on a cylinder mask (R48) -/

/-- The checks shared by CLEAR_STAGE, PUBLISH and WITHDRAW: plan CLOSED, and no bit above the cylinder count (R48). -/
def onMask (ps : Params) (s : State) (act : BitVec 8 → Served) : Served :=
  let mask := BitVec.ofNat 8 (field ps 0 8)
  if s.plan.closed then
    if mask.toNat / 2 ^ s.plan.count = 0 then act mask else refuse s .range 1
  else refuse s .planOpen

/-- The cylinders of a mask, ascending (R48, R75). -/
def cylindersIn (mask : BitVec 8) : List Cyl := Cyl.all.filter (inMask mask)

/-- CLEAR_STAGE on one cylinder (R49). -/
def State.clearStaged (s : State) (p : Port) (c : Cyl) : State := s.setTables (s.tables.setStaged p c (.fill none))

/-- CLEAR_STAGE (R49). -/
def clearStage (p : Port) (ps : Params) (s : State) : Served :=
  onMask ps s fun mask =>
    served ((cylindersIn mask).foldl (fun s c => s.clearStaged p c) s) (dataBytes [mask.toNat])

/-- The staged slots copied into the contribution, which becomes LIVE with age 0 and no verdicts (R52, R73). -/
def Tables.publish (t : Tables) (p : Port) (c : Cyl) : Tables :=
  t.setContribution p c { state := .live, pulses := t.staged p c, verdicts := .fill none, age := 0 }

/-- PUBLISH on one cylinder: copy, then recompute (R52, R75). -/
def State.publishOne (s : State) (p : Port) (c : Cyl) : State := (s.setTables (s.tables.publish p c)).recompute c

/-- PUBLISH (R52). -/
def publish (p : Port) (ps : Params) (s : State) : Served :=
  onMask ps s fun mask =>
    let s := (cylindersIn mask).foldl (fun s c => s.publishOne p c) s
    served s (dataBytes [mask.toNat, maskOf fun c => inMask mask c && (s.tables.contribution p c).hasExcluded])

/-- The contribution becomes WITHDRAWN, keeping its pulses, age and verdicts (R53, R76). -/
def Tables.withdraw (t : Tables) (p : Port) (c : Cyl) : Tables :=
  t.setContribution p c { t.contribution p c with state := .withdrawn }

/-- WITHDRAW on one cylinder: the contribution leaves, then recompute (R53, R76). -/
def State.withdrawOne (s : State) (p : Port) (c : Cyl) : State := (s.setTables (s.tables.withdraw p c)).recompute c

/-- WITHDRAW (R53). -/
def withdraw (p : Port) (ps : Params) (s : State) : Served :=
  onMask ps s fun mask =>
    served ((cylindersIn mask).foldl (fun s c => s.withdrawOne p c) s) (dataBytes [mask.toNat])

/-! ## Cut-out -/

/-- CUTOUT_SET (R89). -/
def cutoutSet (p : Port) (ps : Params) (s : State) : Served :=
  let mask := BitVec.ofNat 8 (field ps 0 8)
  served (s.setTables { s.tables with cutOut := s.tables.cutOut.set p mask })
    (dataBytes [mask.toNat, (s.tables.cutOut.get p.other).toNat])

/-! ## The arming notice (R54 to R57, R77) -/

/-- The answer to an arming notice of `c`: list, revision and cut-out (R54 step 1, R86). -/
def State.armingAnswer (s : State) (c : Cyl) : ArmingAnswer :=
  { entries := (s.tables.active.get c).entries
    revision := (s.tables.active.get c).revision
    cutOut := inMask s.tables.cutOut.a c || inMask s.tables.cutOut.b c }

/-- The age of a LIVE contribution steps, held at 255 (R55). -/
def Contribution.aged (k : Contribution) : Contribution :=
  if k.state = .live then { k with age := min (k.age + 1) 255 } else k

/-- A LIVE contribution has reached a non-zero freshness limit (R56). -/
def Contribution.atLimit (k : Contribution) (limit : Nat) : Bool :=
  decide (k.state = .live ∧ limit ≠ 0 ∧ k.age = limit)

/-- A LIVE contribution whose age has reached a non-zero freshness limit becomes EXPIRED (R56). -/
def Contribution.expire (k : Contribution) (limit : Nat) : Contribution :=
  if k.atLimit limit then { k with state := .expired } else k

/-- Steps 2 and 3 on the contribution of port `p` (R55, R56). -/
def Tables.ageAndExpire (t : Tables) (pl : Plan) (p : Port) (c : Cyl) : Tables :=
  t.setContribution p c ((t.contribution p c).aged.expire (pl.limits.val.freshness.get p))

/-- The contribution of port `p` expires at an arming of `c` (R56). -/
def State.expires (s : State) (p : Port) (c : Cyl) : Bool :=
  (s.tables.contribution p c).aged.atLimit (s.plan.limits.val.freshness.get p)

/-- The flags of an expiry of port `p`'s contribution (R57). -/
def State.flagExpiry (s : State) (on : Bool) (p : Port) : State :=
  (s.raiseIf on p .contribExpired).raiseIf on p.other .peerExpired

/-- Steps 2 and 3 of an arming notice: ages step, contributions expire with their flags, and the list is recomputed once if
any did (R55, R56, R57, R77). -/
def State.stepAges (s : State) (c : Cyl) : State :=
  let ea := s.expires .a c
  let eb := s.expires .b c
  let s := ((s.setTables ((s.tables.ageAndExpire s.plan .a c).ageAndExpire s.plan .b c)).flagExpiry ea .a).flagExpiry eb .b
  if ea || eb then s.recompute c else s

/-- The table engine takes the arming notice of `c` whole (R54). Without one there is nothing to take (log 1). -/
def State.takeNotice (s : State) (c : Cyl) : State :=
  match (s.lane c).arming with
  | some a =>
    match a.answer with
    | none => (s.setLane c { s.lane c with arming := some { a with answer := some (s.armingAnswer c) } }).stepAges c
    | some _ => s
  | none => s

/-! ## Meanings -/

/-- ARMING_NOTICE (R54). -/
def execArmingNotice (dt : Nat) (c : Cyl) (s : State) : Host.Outcome State Fault Refusal :=
  .next ((s.advance dt).takeNotice c)

/-- STAGE_PULSE (R45). -/
def execStagePulse (dt : Nat) (s : State) : Host.Outcome State Fault Refusal :=
  (s.advance dt).serve (· == 0x10#8) stagePulse

/-- CLEAR_SLOT (R47). -/
def execClearSlot (dt : Nat) (s : State) : Host.Outcome State Fault Refusal :=
  (s.advance dt).serve (· == 0x11#8) clearSlot

/-- CLEAR_STAGE (R49). -/
def execClearStage (dt : Nat) (s : State) : Host.Outcome State Fault Refusal :=
  (s.advance dt).serve (· == 0x12#8) clearStage

/-- PUBLISH (R52). -/
def execPublish (dt : Nat) (s : State) : Host.Outcome State Fault Refusal :=
  (s.advance dt).serve (· == 0x13#8) publish

/-- WITHDRAW (R53). -/
def execWithdraw (dt : Nat) (s : State) : Host.Outcome State Fault Refusal :=
  (s.advance dt).serve (· == 0x14#8) withdraw

/-- CUTOUT_SET (R89). -/
def execCutoutSet (dt : Nat) (s : State) : Host.Outcome State Fault Refusal :=
  (s.advance dt).serve (· == 0x18#8) cutoutSet

end Sys2Proof.Machine
end

