-- ==== Sys2Proof/Machine/Service.lean ====
section
/-! DEFINITION. Service pulses, REINSTATE and the reading of the service outcome record (spec/10_service_pulses.md,
spec/07_energizing_profiles_and_driver_faults.md R140). -/

namespace Sys2Proof.Machine

/-! ## The request (R175, R176) -/

/-- The eight tests of SERVICE_PULSE for cylinder number `n`, in order, each with the result and number of its refusal
(R175). -/
def State.serviceTests (s : State) (n duration : Nat) (profile : ProfileIx) : List (Bool × Result × Nat) :=
  [(!s.service.inProgress.isSome, .busy, 0),
   (s.plan.closed, .state, 1),
   (s.plan.hasCylinder n, .range, 1),
   (decide (20 ≤ duration ∧ duration ≤ 20000), .range, 2),
   ((s.plan.profile.get profile).isSet, .range, 3),
   (decide (s.tracker.sync = .stopped), .state, 2),
   (s.noOpenRecord, .state, 3),
   ((cylOf n).elim false fun c => s.bankAtRest (s.plan.bankOf c), .state, 4)]

/-- The result and number of the first test that fails. -/
def firstRefusal : List (Bool × Result × Nat) → Option (Result × Nat)
  | [] => none
  | (ok, r) :: rest => if ok then firstRefusal rest else some r

/-- The service pulse starts (R176). -/
def State.startService (s : State) (p : Port) (c : Cyl) (profile : ProfileIx) (duration : Nat) (x : Sense) : State :=
  let b := s.plan.bankOf c
  let s := s.setService
    { inProgress := some ⟨.driving, p, c, profile, duration, none⟩, record := ⟨some c, .none, none, 0⟩ }
  let s := s.setLane c { s.lane c with injector := .driving }
  (s.setBank b ((s.bank b).serve c)).startDrive b (s.plan.driveOf (.service c) c profile duration) x

/-- SERVICE_PULSE (R175). -/
def servicePulse (x : Sense) (p : Port) (ps : Params) (s : State) : Served :=
  let n := field ps 0 4
  let duration := field ps 4 15
  let profile := fourOf (field ps 19 2)
  match firstRefusal (s.serviceTests n duration profile), cylOf n with
  | none, some c => served (s.startService p c profile duration x) (dataBytes [c.num, (s.plan.bankOf c).num])
  | some r, _ => refuse s r.1 r.2
  | none, none => refuse s .range 1

/-! ## The drive (R177, R178) -/

/-- The cycle unit takes a tooth arrival: a service pulse that is DRIVING is cut through its bank (R178). It is DRIVING
until its drive end is taken (R177), so a further tooth taken before that hands over a further cut (log 33). -/
def State.takeToothNotice (s : State) : State :=
  match s.toothNotices with
  | 0 => s
  | n + 1 =>
    let s := { s with toothNotices := n }
    match s.service.inProgress with
    | some v =>
      if v.phase = .driving then
        s.setLane v.cyl ((s.lane v.cyl).send [.cut (s.plan.bankOf v.cyl) (.service v.cyl)])
      else s
    | none => s

/-- The service pulse after its drive end report (R177). -/
def ServiceFunction.driveEnded (f : ServiceFunction) (cause : Cause) (energized : Nat) : ServiceFunction :=
  { f with inProgress := f.inProgress.map fun v => { v with phase := .releasing, result := some ⟨cause, energized⟩ } }

/-- The service function takes the drive end report of bank `b` (R177). -/
def State.serviceTakesDriveEnd (s : State) (b : Bank) : State :=
  match (s.mailOf b).toCycle with
  | .driveEnd (.service c) cause _ started ended :: _ =>
    let s := (s.popCycleReport b).setService (s.service.driveEnded cause (ended - started))
    s.setLane c { s.lane c with injector := .releasing }
  | .driveEnd (.scheduled _) _ _ _ _ :: _ => s
  | .release _ _ _ :: _ => s
  | .isolation _ :: _ => s
  | [] => s

/-! ## The outcome (R179) -/

/-- The service outcome of a cause (R179). -/
def Cause.serviceOutcome : Cause → ServiceOutcome
  | .time => .done
  | .cut => .cut
  | .fault _ => .faulted

/-- The fault kind of the outcome record: the kind that ended the drive, or else the last fault found (R179). -/
def Cause.serviceFault (cause : Cause) (last : Option FaultKind) : Option FaultKind :=
  match cause with
  | .fault k => some k.kind
  | .time => last
  | .cut => last

/-- The service outcome record that a service pulse with drive end result `r` leaves (R179). -/
def serviceRecordOf (c : Cyl) (r : ServiceResult) (last : Option FaultKind) : ServiceRecord :=
  { cyl := some c, outcome := r.cause.serviceOutcome, fault := r.cause.serviceFault last, energized := r.energized }

/-- The service pulse ends: record, SERVICE_DONE, in progress no (R179). -/
def State.endService (s : State) (v : ServicePulse) (r : ServiceResult) (last : Option FaultKind) : State :=
  (s.setService ⟨none, serviceRecordOf v.cyl r last⟩).raise v.port .serviceDone

/-- The service function takes the release completion of bank `b`: the service pulse ends and the cylinder's dwell starts
(R92, R179). -/
def State.serviceTakesRelease (s : State) (b : Bank) : State :=
  match (s.mailOf b).toCycle with
  | .release (.service c) last moment :: _ =>
    let s := (s.popCycleReport b).startDwell c moment
    match s.service.inProgress with
    | some v =>
      match v.result with
      | some r => s.endService v r last
      | none => s
    | none => s
  | .release (.scheduled _) _ _ :: _ => s
  | .driveEnd _ _ _ _ _ :: _ => s
  | .isolation _ :: _ => s
  | [] => s

/-- SERVICE_READ (R180). -/
def serviceRead (_p : Port) (_ps : Params) (s : State) : Served :=
  let r := s.service.record
  served s (packData
    [(4, r.cyl.elim 0 (·.num)), (2, serviceCode r.outcome), (2, 0), (3, faultCode r.fault), (5, 0), (16, r.energized), (16, 0)])

/-! ## REINSTATE (R140) -/

/-- REINSTATE (R140). -/
def reinstate (_p : Port) (ps : Params) (s : State) : Served :=
  match cylOf (field ps 0 4) with
  | some c =>
    let f := s.faultsOf c
    served (s.setFaults c { f with count := 0, isolated := false }) (packData [(4, f.count), (1, bit f.isolated)])
  | none => refuse s .range 1

/-! ## Meanings -/

/-- TOOTH_ARRIVAL_NOTICE (R178). -/
def execToothArrivalNotice (dt : Nat) (s : State) : Host.Outcome State Fault Refusal :=
  .next (s.advance dt).takeToothNotice

/-- SERVICE_DRIVE_END (R177). -/
def execServiceDriveEnd (dt : Nat) (b : Bank) (s : State) : Host.Outcome State Fault Refusal :=
  .next ((s.advance dt).serviceTakesDriveEnd b)

/-- SERVICE_RELEASE_COMPLETE (R179). -/
def execServiceReleaseComplete (dt : Nat) (b : Bank) (s : State) : Host.Outcome State Fault Refusal :=
  .next ((s.advance dt).serviceTakesRelease b)

/-- SERVICE_PULSE (R175). -/
def execServicePulse (dt : Nat) (x : Sense) (s : State) : Host.Outcome State Fault Refusal :=
  (s.advance dt).serve (· == 0x1C#8) (servicePulse x)

/-- SERVICE_READ (R180). -/
def execServiceRead (dt : Nat) (s : State) : Host.Outcome State Fault Refusal :=
  (s.advance dt).serve (· == 0x1D#8) serviceRead

/-- REINSTATE (R140). -/
def execReinstate (dt : Nat) (s : State) : Host.Outcome State Fault Refusal :=
  (s.advance dt).serve (· == 0x19#8) reinstate

end Sys2Proof.Machine
end

