-- ==== Sys2Proof/Machine/Views.lean ====
section
/-! DEFINITION. The cursor, the table views and ANGLE_READ (spec/09_flags_attention_and_table_views.md, layouts of
spec/08_master_ports_frames_and_request_queues.md section 8.6). -/

namespace Sys2Proof.Machine

/-! ## Entries (R159, R160) -/

/-- A pulse entry: the pulse with its origin, a verdict code and a stamp (R159). -/
def pulseEntry (m : Merged) (verdict stamp : Nat) : Data :=
  packData [(3, kindCode m.pulse.kind), (1, m.port.num), (2, m.slot.num), (2, m.pulse.profile.num),
    (14, angleBits m.pulse.start), (15, m.pulse.duration), (3, verdict), (8, stamp)]

/-- A result entry of the pulse at position `i` (R159). -/
def resultEntry (p : ArmedPulse) (i stamp : Nat) : Data :=
  packData [(5, statusCode p.state), (1, bit p.late), (1, bit p.clipped), (1, bit p.earlyPeak), (3, 0), (15, p.energized),
    (11, p.lateness), (3, i), (8, stamp)]

/-- The STAGE entry of slot `i` (R169). -/
def Tables.stageEntry (t : Tables) (p : Port) (c : Cyl) (i : SlotIx) : Data :=
  ((t.staged p c).get i).elim 0 fun u => pulseEntry ⟨u, p, i⟩ 0 0

/-- The PUB header of port `p` (R160, R169). -/
def Tables.pubHeader (t : Tables) (p : Port) (c : Cyl) : Data :=
  let k := t.contribution p c
  if k.state = .absent then 0
  else packData [(2, contribCode k.state), (2, 0), (4, occupied k.pulses), (8, k.age), (24, 0),
    (8, (t.active.get c).revision.toNat)]

/-- The PUB entry of position `i` of port `p` (R169). -/
def Tables.pubEntry (t : Tables) (p : Port) (c : Cyl) (i : SlotIx) : Data :=
  let k := t.contribution p c
  if k.state = .absent then 0
  else (k.pulses.get i).elim 0 fun u =>
    pulseEntry ⟨u, p, i⟩ (verdictCode (k.verdicts.get i)) (t.active.get c).revision.toNat

/-- Entry `index` of the PUB view of port `p` (R169). -/
def Tables.pubView (t : Tables) (p : Port) (c : Cyl) (index : Nat) : Data :=
  if index = 0 then t.pubHeader p c else t.pubEntry p c (fourOf (index - 1))

/-- Entry `index` of the ACTIVE view (R170). -/
def ActiveList.view (l : ActiveList) (index : Nat) : Data :=
  if index = 0 then packData [(8, l.entries.length), (32, 0), (8, l.revision.toNat)]
  else (l.entries[index - 1]?).elim 0 fun m => pulseEntry m 0 l.revision.toNat

/-- The stamp of a record's entries: the low 8 bits of its cycle number (R159). -/
def Record.stamp (r : Record) : Nat := r.cycle.toNat % 256

/-- The header of a record (R160). -/
def Record.header (r : Record) : Data :=
  packData [(16, r.cycle.toNat), (8, r.revision.toNat), (1, bit r.cutOut), (1, bit r.isolated), (3, r.pulses.length), (2, 0),
    (1, 1), (8, 0), (8, r.stamp)]

/-- Entry `index` of a record: the header, then for each position its pulse entry and its result entry (R170). -/
def Record.view (r : Record) (index : Nat) : Data :=
  if index = 0 then r.header
  else
    let i := (index - 1) / 2
    (r.pulses[i]?).elim 0 fun p => if index % 2 = 1 then pulseEntry p.merged 0 r.stamp else resultEntry p i r.stamp

/-- Entry `index` of a record's view; all zero without a record (R159, R170). -/
def recordView (r : Option Record) (index : Nat) : Data := r.elim 0 fun r => r.view index

/-- The FAULT entry of `c` (R139, R160, R171). -/
def CylinderFaults.entry (f : CylinderFaults) (c : Cyl) : Data :=
  packData [(3, faultCode f.lastKind), (3, f.lastPulse.elim 0 kindCode), (1, bit f.isolated), (1, 0), (4, f.count),
    (4, c.num), (16, f.lastCycle.toNat), (16, 0)]

/-- The entry at a cursor of port `p`, as its table stands (R168 to R172). -/
def State.entryAt (s : State) (p : Port) (k : Cursor) : Data :=
  match k.view with
  | .stage => s.tables.stageEntry p k.cyl (fourOf k.index)
  | .pubA => s.tables.pubView .a k.cyl k.index
  | .pubB => s.tables.pubView .b k.cyl k.index
  | .active => (s.tables.active.get k.cyl).view k.index
  | .armed => recordView (s.lane k.cyl).current k.index
  | .outcome => recordView (s.lane k.cyl).last k.index
  | .fault => (s.faultsOf k.cyl).entry k.cyl

/-! ## The cursor (R167, R168) -/

/-- The wrap count: the plan's cylinder count while the engine group is set, and 8 while it is unset (R168). -/
def Plan.wrapCount (pl : Plan) : Nat := if pl.engine.isSet then pl.count else 8

/-- The next cylinder: plus 1 if that is at most the wrap count, cylinder 1 otherwise (R168). -/
def nextCyl (wrap : Nat) (c : Cyl) : Cyl :=
  if c.num + 1 ≤ wrap then (cylOf (c.num + 1)).getD .c1 else .c1

/-- The cursor moves on (R168). -/
def Cursor.moveOn (k : Cursor) (wrap : Nat) : Cursor :=
  if k.index + 1 < viewEntries k.view then { k with index := k.index + 1 }
  else { k with index := 0, cyl := nextCyl wrap k.cyl }

/-- CURSOR_SET (R167). -/
def cursorSet (p : Port) (ps : Params) (s : State) : Served :=
  let v := field ps 0 3
  let n := field ps 3 4
  let index := field ps 7 4
  let step := field ps 11 1
  match viewOf v, cylOf n with
  | none, _ => refuse s .range 1
  | some _, none => refuse s .range 2
  | some view, some c =>
    if index < viewEntries view then
      served (s.setPort p { s.port p with cursor := ⟨view, c, index, decide (step = 1)⟩ })
        (dataBytes [v, n, index, step, viewEntries view, s.plan.wrapCount])
    else refuse s .range 3

/-- CURSOR_READ (R168). -/
def cursorRead (p : Port) (_ps : Params) (s : State) : Served :=
  let k := (s.port p).cursor
  served (if k.step then s.setPort p { s.port p with cursor := k.moveOn s.plan.wrapCount } else s) (s.entryAt p k)

/-! ## ANGLE_READ (R173) -/

/-- The data of ANGLE_READ for a part (R160, R173). -/
def State.angleData (s : State) (part : Nat) : Data :=
  let t := s.tracker
  if part = 0 then
    packData [(16, s.angleWord), (16, readAngle t.indexHeld (t.revAngle s.now)), (16, t.speed)]
  else
    packData [(3, syncCode t.sync), (1, bit (decide (t.sync = .coasting) && t.phaseHeld)), (4, 0), (16, t.cycles.toNat),
      (4, t.missedGaps), (4, t.phaseMisses), (16, 0)]

/-- ANGLE_READ (R173). -/
def angleRead (_p : Port) (ps : Params) (s : State) : Served := served s (s.angleData (field ps 0 1))

/-! ## Meanings -/

/-- CURSOR_SET (R167). -/
def execCursorSet (dt : Nat) (s : State) : Host.Outcome State Fault Refusal :=
  (s.advance dt).serve (· == 0x2A#8) cursorSet

/-- CURSOR_READ (R168). -/
def execCursorRead (dt : Nat) (s : State) : Host.Outcome State Fault Refusal :=
  (s.advance dt).serve (· == 0x2B#8) cursorRead

/-- ANGLE_READ (R173). -/
def execAngleRead (dt : Nat) (s : State) : Host.Outcome State Fault Refusal :=
  (s.advance dt).serve (· == 0x2C#8) angleRead

end Sys2Proof.Machine
end

