-- ==== Sys2Proof/Machine/Dispatch.lean ====
section
/-! DEFINITION. The dispatch: one arm for each constructor of Instr, each one call of its meaning. -/

namespace Sys2Proof.Machine

/-- The effect of a command on everything but the queue of commands. -/
def exec (i : Instr) (s : State) : Host.Outcome State Fault Refusal :=
  match i with
  | .powerOnReset dt => Sys2Proof.Machine.execPowerOnReset dt s
  | .toothArrival dt cam => Sys2Proof.Machine.execToothArrival dt cam s
  | .stallExpiry dt => Sys2Proof.Machine.execStallExpiry dt s
  | .armingPoint dt c => Sys2Proof.Machine.execArmingPoint dt c s
  | .armingNotice dt c => Sys2Proof.Machine.execArmingNotice dt c s
  | .armingAnswer dt c => Sys2Proof.Machine.execArmingAnswer dt c s
  | .startPoint dt c pos => Sys2Proof.Machine.execStartPoint dt c pos s
  | .syncChange dt => Sys2Proof.Machine.execSyncChange dt s
  | .syncChangeTableEngine dt => Sys2Proof.Machine.execSyncChangeTableEngine dt s
  | .toothArrivalNotice dt => Sys2Proof.Machine.execToothArrivalNotice dt s
  | .deadlineExpiry dt c pos => Sys2Proof.Machine.execDeadlineExpiry dt c pos s
  | .dwellEnd dt c => Sys2Proof.Machine.execDwellEnd dt c s
  | .grantOffer dt b => Sys2Proof.Machine.execGrantOffer dt b s
  | .cycleDriveEnd dt b => Sys2Proof.Machine.execCycleDriveEnd dt b s
  | .cycleReleaseComplete dt b => Sys2Proof.Machine.execCycleReleaseComplete dt b s
  | .isolationEvent dt b => Sys2Proof.Machine.execIsolationEvent dt b s
  | .queueEntry dt c => Sys2Proof.Machine.execQueueEntry dt c s
  | .queueRemoval dt c => Sys2Proof.Machine.execQueueRemoval dt c s
  | .offerAccept dt c x => Sys2Proof.Machine.execOfferAccept dt c x s
  | .offerRefusal dt c => Sys2Proof.Machine.execOfferRefusal dt c s
  | .boostEnd dt b => Sys2Proof.Machine.execBoostEnd dt b s
  | .bankDriveEnd dt b => Sys2Proof.Machine.execBankDriveEnd dt b s
  | .bankReleaseComplete dt b => Sys2Proof.Machine.execBankReleaseComplete dt b s
  | .rechargeExpiry dt b => Sys2Proof.Machine.execRechargeExpiry dt b s
  | .preemptExpiry dt b => Sys2Proof.Machine.execPreemptExpiry dt b s
  | .bankCut dt c => Sys2Proof.Machine.execBankCut dt c s
  | .driverCut dt b x => Sys2Proof.Machine.execDriverCut dt b x s
  | .peak dt b x => Sys2Proof.Machine.execPeak dt b x s
  | .holdChop dt b pk => Sys2Proof.Machine.execHoldChop dt b pk s
  | .floorEntry dt b => Sys2Proof.Machine.execFloorEntry dt b s
  | .floorExit dt b => Sys2Proof.Machine.execFloorExit dt b s
  | .holdLossExpiry dt b x => Sys2Proof.Machine.execHoldLossExpiry dt b x s
  | .peakLimitExpiry dt b x => Sys2Proof.Machine.execPeakLimitExpiry dt b x s
  | .trip dt b x => Sys2Proof.Machine.execTrip dt b x s
  | .durationExpiry dt b x => Sys2Proof.Machine.execDurationExpiry dt b x s
  | .zero dt b => Sys2Proof.Machine.execZero dt b s
  | .releaseLimitExpiry dt b => Sys2Proof.Machine.execReleaseLimitExpiry dt b s
  | .serviceDriveEnd dt b => Sys2Proof.Machine.execServiceDriveEnd dt b s
  | .serviceReleaseComplete dt b => Sys2Proof.Machine.execServiceReleaseComplete dt b s
  | .transactionBegin dt p => Sys2Proof.Machine.execTransactionBegin dt p s
  | .transactionComplete dt p rx => Sys2Proof.Machine.execTransactionComplete dt p rx s
  | .shortTransaction dt p bits => Sys2Proof.Machine.execShortTransaction dt p bits s
  | .noneFrame dt p rest => Sys2Proof.Machine.execNoneFrame dt p rest s
  | .portReset dt p rest => Sys2Proof.Machine.execPortReset dt p rest s
  | .unknownRequest dt => Sys2Proof.Machine.execUnknownRequest dt s
  | .planSetEngine dt => Sys2Proof.Machine.execPlanSetEngine dt s
  | .planSetCylinder dt => Sys2Proof.Machine.execPlanSetCylinder dt s
  | .planSetTiming dt => Sys2Proof.Machine.execPlanSetTiming dt s
  | .planSetKind dt => Sys2Proof.Machine.execPlanSetKind dt s
  | .planSetBank dt => Sys2Proof.Machine.execPlanSetBank dt s
  | .planSetProfile dt => Sys2Proof.Machine.execPlanSetProfile dt s
  | .planSetLimits dt => Sys2Proof.Machine.execPlanSetLimits dt s
  | .planRead dt => Sys2Proof.Machine.execPlanRead dt s
  | .planClose dt => Sys2Proof.Machine.execPlanClose dt s
  | .planOpen dt => Sys2Proof.Machine.execPlanOpen dt s
  | .stagePulse dt => Sys2Proof.Machine.execStagePulse dt s
  | .clearSlot dt => Sys2Proof.Machine.execClearSlot dt s
  | .clearStage dt => Sys2Proof.Machine.execClearStage dt s
  | .publish dt => Sys2Proof.Machine.execPublish dt s
  | .withdraw dt => Sys2Proof.Machine.execWithdraw dt s
  | .cutoutSet dt => Sys2Proof.Machine.execCutoutSet dt s
  | .reinstate dt => Sys2Proof.Machine.execReinstate dt s
  | .servicePulse dt x => Sys2Proof.Machine.execServicePulse dt x s
  | .serviceRead dt => Sys2Proof.Machine.execServiceRead dt s
  | .portSetup dt => Sys2Proof.Machine.execPortSetup dt s
  | .flagsRead dt => Sys2Proof.Machine.execFlagsRead dt s
  | .flagsClear dt => Sys2Proof.Machine.execFlagsClear dt s
  | .cursorSet dt => Sys2Proof.Machine.execCursorSet dt s
  | .cursorRead dt => Sys2Proof.Machine.execCursorRead dt s
  | .angleRead dt => Sys2Proof.Machine.execAngleRead dt s

end Sys2Proof.Machine
end

