-- ==== Sys2Proof/Safety.lean ====
section
/-! DEFINITION. What the statements of this package speak of: which request is taken next and what its taking leaves, which
flags a step sets, and the laws of the part that every step keeps. -/

namespace Sys2Proof.Machine

/-! ## Requests (R153, R154) -/

/-- Request `r` of port `p` is the one taken next and `rest` waits behind it (R153): `p` holds it at its head and has room for a
reply, and `p` was not taken from last or the other port is not eligible. -/
def State.NextIs (s : State) (p : Port) (r : Request) (rest : List Request) : Prop :=
  (s.port p).commands = r :: rest ∧ (s.port p).replies.length < 16 ∧
    (s.lastTaken = p.other ∨ (s.port p.other).commands = [] ∨ 16 ≤ (s.port p.other).replies.length)

/-- The state after `dt` in which the head of the command queue of `p` has been taken and `rest` is left: HOLD_N is released at
or below the resume level and `p` is the port last taken from (R150, R153, R154). -/
def State.taken (s : State) (dt : Nat) (p : Port) (rest : List Request) : State :=
  { s with
    now := s.now + dt
    lastTaken := p
    ports := s.ports.set p { s.port p with
      commands := rest
      hold := (s.port p).hold && decide ((s.port p).resume < rest.length) } }

/-- The reply to `r` stands at the tail of the reply queue of `p` (R149, R154). -/
def State.replied (s : State) (p : Port) (r : Request) (result : Result) (data : Data) : State :=
  { s with ports := s.ports.set p { s.port p with
      replies := (s.port p).replies ++ [⟨r.code, r.tag, result, data⟩] } }

/-! ## Flags (R161, R162, R165) -/

/-- From `s` to `t` exactly the flags `on` are newly raised: every other flag keeps its state, ATTN_N follows flags and mask
where a flag is raised and stands where none is, and nothing else of either port changes. -/
def Raised (s t : State) (on : Port → Flag → Bool) : Prop :=
  ∀ p : Port,
    t.port p = { s.port p with flags := (t.port p).flags, attn := (t.port p).attn } ∧
    (∀ f : Flag, (t.port p).flags.getLsbD f.bitNumber = ((s.port p).flags.getLsbD f.bitNumber || on p f)) ∧
    ((∃ f, on p f = true) → (t.port p).attn = decide ((t.port p).flags &&& (s.port p).mask ≠ 0)) ∧
    ((∀ f, on p f = false) → (t.port p).attn = (s.port p).attn)

/-- No flag. -/
def noFlags : Port → Flag → Bool := fun _ _ => false

/-- One flag on both ports. -/
def flagBoth (f : Flag) : Port → Flag → Bool := fun _ g => decide (g = f)

/-! ## Engine plan (spec/02) -/

/-- Check `n` of PLAN_CLOSE passes (R38). -/
def Plan.ClosePasses (pl : Plan) (n : Nat) : Prop :=
  let used := fun c : Cyl => c.num ≤ pl.engine.val.count
  if n = 1 then pl.engine.isSet = true
  else if n = 2 then pl.timing.isSet = true
  else if n = 3 then pl.limits.isSet = true
  else if n = 4 then ∀ k, (pl.kind.get k).isSet = true
  else if n = 5 then ∀ c, used c → (pl.cylinder.get c).isSet = true
  else if n = 6 then ∀ c, used c → (pl.bank.get (pl.cylinder.get c).val.bank).isSet = true
  else if n = 7 then (pl.profile.get .i0).isSet = true
  else if n = 8 then ∀ c d, used c → used d → c ≠ d → (pl.cylinder.get c).val.tdc ≠ (pl.cylinder.get d).val.tdc
  else if n = 9 then ∀ c, used c → (pl.cylinder.get c).val.endLimit + pl.timing.val.advance ≤ 11456
  else 4 * pl.engine.val.missing < pl.engine.val.teeth

/-- The plan's law: a set instance holds fields in range (R28 to R36), a CLOSED plan passes the ten checks (R38), and votes
exist only while the plan is CLOSED (R39, R42). -/
def PlanLaw (pl : Plan) : Prop :=
  (pl.engine.isSet = true → pl.engine.val.inRange = true) ∧
  (∀ c, (pl.cylinder.get c).isSet = true → (pl.cylinder.get c).val.inRange = true) ∧
  (pl.timing.isSet = true → pl.timing.val.inRange = true) ∧
  (∀ k, (pl.kind.get k).isSet = true → (pl.kind.get k).val.tolerance ≤ 2000) ∧
  (∀ b, (pl.bank.get b).isSet = true → (pl.bank.get b).val.recharge ≤ 3000 ∧ (pl.bank.get b).val.preemptDelay ≤ 500) ∧
  (∀ i, (pl.profile.get i).isSet = true → (pl.profile.get i).val.inRange = true) ∧
  (pl.limits.isSet = true → pl.limits.val.inRange = true) ∧
  (pl.closed = true → ∀ n, 1 ≤ n → n ≤ 10 → pl.ClosePasses n) ∧
  (pl.closed = false → ∀ p, pl.votes.get p = false)

/-! ## Tracker (spec/01) -/

/-- A period is gap-like (R5): the geometry is set, the window holds at least four entries, and 8 × period × entries is at least
G × their sum. -/
def GapLike (t : Tracker) (p : Nat) : Prop :=
  ∃ w, t.copy = some w ∧ 4 ≤ t.window.length ∧ w.gapRatio * t.window.sum ≤ 8 * p * t.window.length

/-- The tracker holds a tooth index (section 1.3). -/
def Synced (t : Tracker) : Prop := t.sync = .crankSync ∨ t.sync = .fullSync ∨ t.sync = .coasting

/-- Phase is known (section 1.3): FULL_SYNC, or COASTING with phase held. -/
def PhaseKnown (t : Tracker) : Prop := t.sync = .fullSync ∨ (t.sync = .coasting ∧ t.phaseHeld = true)

/-- A notice that loses phase (R25). -/
def LosesPhase (n : SyncNotice) : Prop := n.phaseBefore = true ∧ n.phaseAfter = false

/-- From `s` to `t` the tracker's sync state has changed once, from `old` to `new`, and the change is handed to the cycle unit
and to the table engine with both states and phase before and after (R25). -/
def Noticed (s t : State) (old new : SyncState) (before after : Prop) : Prop :=
  ∃ n : SyncNotice, t.syncToCycle = s.syncToCycle ++ [n] ∧ t.syncToTable = s.syncToTable ++ [n] ∧
    n.old = old ∧ n.new = new ∧ (n.phaseBefore = true ↔ before) ∧ (n.phaseAfter = true ↔ after)

/-- A point at or before the angle held at `now` is still to be delivered, or an arming is in course whose record may bring one
(log 10). -/
def PointsOwed (s : State) (now : Nat) : Prop :=
  (∃ w c, s.tracker.copy = some w ∧ c.num ≤ w.count ∧ s.tracker.nextArming w c ≤ s.tracker.position now) ∨
  (∃ c r, (s.lane c).current = some r ∧ ∃ q ∈ r.pulses, q.state = .pending ∧ r.startPos q ≤ s.tracker.position now) ∨
  ∃ c, (s.lane c).arming ≠ none

/-- `m` are the tracker's marks after the engine angle has jumped, at an arrival at `now`, from the angle just before it to
`angle`, with `laps` passings of 0 behind it (R24): the jump is added, earlier ones are kept while points are owed, and all else
stands (log 10). -/
def JumpMarked (s : State) (now laps angle : Nat) (m : PointMarks) : Prop :=
  ∃ kept, (PointsOwed s now → kept = s.tracker.marks.jumps) ∧ (¬PointsOwed s now → kept = []) ∧
    m = { s.tracker.marks with laps := laps, jumps := ⟨s.tracker.position now, laps * 11520 + angle⟩ :: kept }

/-- The point at position `pos` is at hand at `now` (R22, R23, R24): phase is known and no loss of it waits for the cycle unit,
the angle has reached the point, no other point watched lies before it, and it does not follow, within one jump, an arming point
whose record is not made yet and whose phase has not been lost (log 10, log 12). -/
def PointAtHand (s : State) (now pos : Nat) : Prop :=
  PhaseKnown s.tracker ∧ (∀ n ∈ s.syncToCycle, ¬LosesPhase n) ∧ pos ≤ s.tracker.position now ∧
  (∀ w c, s.tracker.copy = some w → c.num ≤ w.count → pos ≤ s.tracker.nextArming w c) ∧
  (∀ c r, (s.lane c).current = some r → ∀ q ∈ r.pulses, q.state = .pending → pos ≤ r.startPos q) ∧
  (∀ c a, (s.lane c).arming = some a → a.loss = none →
    ∀ j ∈ s.tracker.marks.jumps, ¬(j.start < a.pos ∧ a.pos < pos ∧ pos ≤ j.stop))

/-- The tracker's law: the window holds at most eight periods (R4); the stall timer runs, and a last tooth is held, in every
state but STOPPED (R6, R7, R17); from CANDIDATE on there is a working copy and the window holds at least four entries (R5); and
a tooth index that is held is at most N−M−1 (R10). -/
def TrackerLaw (t : Tracker) : Prop :=
  t.window.length ≤ 8 ∧
  (t.stallOn = true ↔ t.sync ≠ .stopped) ∧
  (t.lastTooth.isSome = true ↔ t.sync ≠ .stopped) ∧
  (t.sync = .candidate ∨ Synced t → 4 ≤ t.window.length ∧ t.copy.isSome = true) ∧
  (Synced t → ∀ w, t.copy = some w → t.tooth ≤ w.teeth - w.missing - 1)

/-! ## Firing tables (spec/03, spec/04) -/

/-- Every active list is the merge of the two contributions under the plan, and no contribution is LIVE while the plan is OPEN
(R63). -/
def MergeLaw (s : State) : Prop :=
  (∀ c : Cyl, (s.tables.active.get c).entries =
    s.plan.mergeList (s.tables.contribution .a c) (s.tables.contribution .b c)) ∧
  (s.plan.closed = false → ∀ (p : Port) (c : Cyl), (s.tables.contribution p c).state ≠ .live)

/-! ## Lanes (spec/05) -/

/-- An answer is on its way to the lane whose record will hold pulses open: its list is not empty, the cylinder is not cut out,
and no loss of phase has been taken since the arming point (R86, log 27). -/
def PulsesUnderWay (l : Lane) : Prop :=
  ∃ a x, l.arming = some a ∧ a.loss = none ∧ a.answer = some x ∧ x.cutOut = false ∧ x.entries ≠ []

/-- No record of the lane is open, current or superseded (R82, R100). -/
def NoOpenRecord (l : Lane) : Prop := l.current = none ∧ l.superseded = none

/-- No record of the lane is open (R82) and none with pulses is on its way (log 27). -/
def NothingArmed (l : Lane) : Prop := NoOpenRecord l ∧ ¬PulsesUnderWay l

/-- Bank `b` is IDLE and no acceptance of its offer is on its way to make it HELD (log 27). -/
def BankAtRest (s : State) (b : Bank) : Prop :=
  (s.bank b).state = .idle ∧ ∀ c id profile duration, BankMessage.accept b id profile duration ∉ (s.lane c).outbox

/-- The law of R40: the plan is OPEN only while no armed record is open, no service pulse is in progress and every bank is IDLE;
and then the active lists are empty and no contribution is LIVE (R41). -/
def OpenLaw (s : State) : Prop :=
  s.plan.closed = false →
    (∀ c, NothingArmed (s.lane c)) ∧ s.service.inProgress = none ∧ (∀ b, BankAtRest s b) ∧
    (∀ c : Cyl, (s.tables.active.get c).entries = []) ∧ ∀ (p : Port) (c : Cyl), (s.tables.contribution p c).state ≠ .live

/-- A pulse of the record has no outcome yet. -/
abbrev Record.Open (r : Record) : Prop := ∃ p ∈ r.pulses, p.state.final = false

/-- The lane's law: a record that is present has a pulse without an outcome (R99), and a superseded record holds no PENDING or
DUE pulse (R85). -/
def LaneLaw (l : Lane) : Prop :=
  (∀ r, l.current = some r → r.Open) ∧
  (∀ r, l.superseded = some r → r.Open ∧ ∀ p ∈ r.pulses, p.state.waits = false)

/-- The lane of `c`, of bank `b`, from `before` to `after` where every PENDING and DUE pulse of its current record is dropped
for `reason` and taken out of the wait queue, and the record closes if nothing of it is left open (R96, R97, R99); `arming` is
the arming in course afterwards. -/
def DropsWaiting (before after : Lane) (b : Bank) (c : Cyl) (reason : DropReason) (arming : Option Arming) : Prop :=
  match before.current with
  | none => after = { before with arming := arming }
  | some r =>
    let dropped := { r with pulses := r.pulses.map fun q => if q.state.waits then { q with state := .dropped reason } else q }
    after = { before with
      arming := arming
      current := if dropped.Open then some dropped else none
      last := if dropped.Open then before.last else some dropped
      outbox := before.outbox ++ r.removals b c }

/-! ## Banks (spec/06) -/

/-- Queue order (R107): higher class rank first, and among equals the earlier due time first. -/
def QueueOrdered (q : List QueueEntry) : Prop :=
  q.Pairwise fun x y => y.rank < x.rank ∨ (y.rank = x.rank ∧ x.due ≤ y.due)

/-- The bank's law (R102): a holder is present exactly in HELD and RELEASING, the preempt timer runs only in HELD, the offer is
an entry of the queue, and the queue is in order. -/
def BankLaw (r : BankRecord) : Prop :=
  (r.holder.isSome = true ↔ r.state = .held ∨ r.state = .releasing) ∧
  (r.preempt.isSome = true → r.state = .held) ∧
  (∀ e, r.offer = some e → e ∈ r.queue) ∧
  QueueOrdered r.queue

/-- No entry of due time `due` for bank `b` that was handed over before turn `turn` is still on its way (R107). -/
def JoinsFirst (s : State) (b : Bank) (due turn : Nat) : Prop :=
  ∀ d e n, BankMessage.entry b e n ∈ (s.lane d).outbox → e.due = due → turn ≤ n

/-- Entry `e` qualifies for preemption: the bank is HELD by a scheduled pulse that it outranks by two or more (R113). -/
def QualifiesAgainst (r : BankRecord) (e : QueueEntry) : Bool :=
  decide (r.state = .held) && match r.holder with
    | some (.scheduled id) => decide (kindRank id.kind + 2 ≤ kindRank e.id.kind)
    | some (.service _) => false
    | none => false

/-! ## Drives (spec/07) -/

/-- `u` with a drive started on bank `b` (R124, R125): the drive of cylinder `c` under the plan's profile `i`, comparator levels
`x` seen, IREF at peak current, hold floor and trip current, BOOST_G and LOW_G on, duration and peak-limit timers running, slot
in BOOST. -/
def StartsDrive (u : State) (b : Bank) (x : Sense) (c : Cyl) (i : ProfileIx) (duration : Nat) (h : Holder) : State :=
  let g := (u.plan.profile.get i).val
  { u with
    sense := u.sense.set b x
    lowGates := u.lowGates.set c true
    slots := u.slots.set b
      { phase := .boost, drive := some { cyl := c, profileIx := i, profile := g, duration := duration, holder := h }
        start := u.now, cause := none, faults := [], earlyPeak := false, durationTimer := some (u.now + duration)
        peakLimitTimer := some (u.now + g.peakLimit), holdLossTimer := none, releaseTimer := none
        boostGate := true, battGate := false, iref := ⟨g.peak, g.hold / 2, g.trip⟩ } }

/-- The fault record of the drive's cylinder with fault `k` written (R136, R139). -/
def FaultWritten (s : State) (d : Drive) (k : FaultKind) : CylinderFaults :=
  { s.faultsOf d.cyl with
    lastKind := some k
    lastCycle := match d.holder with | .scheduled id => id.cycle | .service _ => s.tracker.cycles
    lastPulse := match d.holder with | .scheduled id => some id.kind | .service _ => none }

/-- Command `i`, taken after `dt`, ends the drive `d` of the slot of bank `b` with `cause` (R127, R129, R130, R131, R132, R133). -/
def EndsDrive (dt : Nat) (b : Bank) (x : Sense) (s : State) (d : Drive) (i : Instr) (cause : Cause) : Prop :=
  let y := s.slot b
  let comes := fun timer : Option Nat => ∃ e, timer = some e ∧ e ≤ s.now + dt
  (i = .durationExpiry dt b x ∧ cause = .time ∧ (y.phase = .boost ∨ y.phase = .hold) ∧ comes y.durationTimer) ∨
  (i = .driverCut dt b x ∧ cause = .cut ∧ (y.phase = .boost ∨ y.phase = .hold) ∧
    (s.mailOf b).cuts.head? = some d.holder) ∨
  (i = .peakLimitExpiry dt b x ∧ cause = .fault .openPeak ∧ y.phase = .boost ∧ comes y.peakLimitTimer) ∨
  (i = .holdLossExpiry dt b x ∧ cause = .fault .holdLoss ∧ y.phase = .hold ∧ comes y.holdLossTimer) ∨
  (i = .trip dt b x ∧ cause = .fault .overcurrent ∧ (y.phase = .boost ∨ y.phase = .hold) ∧ x.tr = true)

/-! ## Banks and drive slots (spec/06, spec/07) -/

/-- Where a bank and its drive slot stand to one another, with the reports the bank arbiter has not taken yet, oldest first, and
whether the recharge is WAITING: a slot is OFF while its bank is IDLE or RECOVERING (R123), each drive reports one boost end,
one drive end and one release completion in that order (R103, R104, R105, R133), and the recharge is WAITING just until the
boost end is taken (R103). -/
def InStep (bank : BankState) (phase : Phase) (waiting : Bool) (reports : List BankReport) : Prop :=
  match bank, phase with
  | .idle, .off => reports = [] ∧ waiting = false
  | .recovering, .off => reports = [] ∧ waiting = false
  | .held, .boost => reports = [] ∧ waiting = true
  | .held, .hold => (∃ moment, reports = [.boostEnd moment] ∧ waiting = true) ∨ (reports = [] ∧ waiting = false)
  | .held, .release =>
    (∃ moment, reports = [.boostEnd moment, .driveEnd] ∧ waiting = true) ∨ (reports = [.driveEnd] ∧ waiting = false)
  | .held, .off =>
    (∃ moment, reports = [.boostEnd moment, .driveEnd, .releaseComplete] ∧ waiting = true) ∨
      (reports = [.driveEnd, .releaseComplete] ∧ waiting = false)
  | .releasing, .release => reports = [] ∧ waiting = false
  | .releasing, .off => reports = [.releaseComplete] ∧ waiting = false
  | _, _ => False

/-- The slot's law: a drive is present exactly outside OFF (R123), the boost gate is on only in BOOST and the battery gate only
in HOLD (R125, R126, R128, R133), and IREF is at zero in OFF (R124). -/
def SlotLaw (x : DriveSlot) : Prop :=
  (x.drive.isSome = true ↔ x.phase ≠ .off) ∧
  (x.boostGate = true → x.phase = .boost) ∧
  (x.battGate = true → x.phase = .hold) ∧
  (x.phase = .off → x.iref = ⟨0, 0, 0⟩)

/-- The drivers' law: every bank stands in step with its slot, every slot keeps its law, and a low-side gate that is on belongs
to the cylinder of a drive in BOOST or HOLD (R125, R128, R133). -/
def DriverLaw (s : State) : Prop :=
  (∀ b : Bank, InStep (s.bank b).state (s.slot b).phase (decide ((s.bank b).recharge = .waiting)) (s.mailOf b).toBank) ∧
  (∀ b : Bank, SlotLaw (s.slot b)) ∧
  (∀ c : Cyl, s.lowGates.get c = true →
    ∃ b d, ((s.slot b).phase = .boost ∨ (s.slot b).phase = .hold) ∧ (s.slot b).drive = some d ∧ d.cyl = c)

/-! ## Ports (spec/08, spec/09) -/

/-- The port's law: each queue holds at most 16 (R153), the levels are in range (R150), HOLD_N asserted means a depth above the
resume level and released a depth below the halt level (R150), ATTN_N follows flags and mask (R165), and the cursor stands
within its view (R167). -/
def PortLaw (q : PortState) : Prop :=
  q.commands.length ≤ 16 ∧ q.replies.length ≤ 16 ∧
  2 ≤ q.halt ∧ q.halt ≤ 16 ∧ q.resume < q.halt ∧
  (q.hold = true → q.resume < q.commands.length) ∧
  (q.hold = false → q.commands.length < q.halt) ∧
  (q.attn = true ↔ q.flags &&& q.mask ≠ 0) ∧
  q.cursor.index < viewEntries q.cursor.view

end Sys2Proof.Machine
end

