-- ==== Sys2Proof/Certificates/Slice0/Obligations.lean ====
section
/-! DEFINITION. The statements about the part that provers are asked to settle. Each docstring says which rules of spec/ it
speaks of, and names the log entry where a clause is the model's choice and not the spec's. -/

open Sys2Proof Sys2Proof.Machine

/-! ## The queue of commands, reset -/

/-- A step takes the command at the front of the queue and runs `exec` on it with the queue's rest; with no command waiting the
part idles (the idling is the model's choice, log 2). -/
def Obligations.StepTakesFrontCommand : Prop :=
  ∀ (s : State),
    (∀ (c : Instr) (rest : List Instr), step { s with pending := c :: rest } = exec c { s with pending := rest }) ∧
    step { s with pending := [] } = .next { s with pending := [] }

/-- Every command answers a next state, in every state: none faults and none is refused. It leaves the queue of commands alone,
and exactly its delay passes (log 2). -/
def Obligations.EveryCommandAnswersNext : Prop :=
  ∀ (c : Instr) (s : State), ∃ t, exec c s = .next t ∧ t.pending = s.pending ∧ t.now = s.now + c.delay

/-- POWER_ON_RESET leaves every block at the values of R6, R28, R44, R50, R61, R62, R82, R89, R102, R123, R137 to R139, R153,
R157 and R174. That time, the input pins and the queue stand is the model's choice (log 3), and so are the values of `marks`,
`start` and of the messages between blocks (log 1, log 6, log 10). -/
def Obligations.PowerOnResetState : Prop :=
  ∀ (dt : Nat) (s : State), ∃ t, exec (.powerOnReset dt) s = .next t ∧
    t.now = s.now + dt ∧ t.sense = s.sense ∧ t.camIn = s.camIn ∧ t.pending = s.pending ∧
    t.tracker = { sync := .stopped, window := [], lastTooth := none, candidateCount := 0, tooth := 0, rev := false,
                  phaseHeld := false, prevCam := none, missedGaps := 0, phaseMisses := 0, cycles := 0,
                  phaseGained := false, stallOn := false, speed := 0, copy := none, marks := .reset } ∧
    t.syncToCycle = [] ∧ t.syncToTable = [] ∧ t.toothNotices = 0 ∧
    t.plan.closed = false ∧ (∀ p, t.plan.votes.get p = false) ∧
    t.plan.engine = ⟨false, ⟨0, 0, 0, 0, false⟩⟩ ∧ (∀ c, t.plan.cylinder.get c = ⟨false, ⟨0, .i0, 0⟩⟩) ∧
    t.plan.timing = ⟨false, ⟨0, 0, 0, 0⟩⟩ ∧ (∀ k, t.plan.kind.get k = ⟨false, ⟨0, .a⟩⟩) ∧
    (∀ b, t.plan.bank.get b = ⟨false, ⟨0, 0⟩⟩) ∧ (∀ i, t.plan.profile.get i = ⟨false, ⟨0, 0, 0, 0, 0, 0, 0⟩⟩) ∧
    t.plan.limits = ⟨false, ⟨0, 0, 0, 0, ⟨0, 0⟩⟩⟩ ∧
    (∀ p c i, (t.tables.staged p c).get i = none) ∧
    (∀ p c, t.tables.contribution p c = ⟨.absent, .fill none, .fill none, 0⟩) ∧
    (∀ c, t.tables.active.get c = ⟨[], 0⟩) ∧ (∀ p, t.tables.cutOut.get p = 0) ∧
    (∀ c, t.lane c = { current := none, superseded := none, last := none, injector := .ready, arming := none,
                       outbox := [] }) ∧
    t.service = { inProgress := none, record := ⟨none, .none, none, 0⟩ } ∧
    (∀ b, t.bank b = { state := .idle, holder := none, recharge := .done, queue := [], offer := none, preempt := none }) ∧
    (∀ b, t.slot b = { phase := .off, drive := none, start := 0, cause := none, faults := [], earlyPeak := false,
                       durationTimer := none, peakLimitTimer := none, holdLossTimer := none, releaseTimer := none,
                       boostGate := false, battGate := false, iref := ⟨0, 0, 0⟩ }) ∧
    (∀ b, t.mailOf b = ⟨[], [], []⟩) ∧ (∀ c, t.lowGates.get c = false) ∧
    (∀ c, t.faultsOf c = { count := 0, isolated := false, lastKind := none, lastCycle := 0, lastPulse := none }) ∧
    (∀ p, t.port p = { commands := [], replies := [], flags := 0, mask := 0xFFFF, halt := 12, resume := 4, hold := false,
                       attn := false, cursor := ⟨.stage, .c1, 0, false⟩, txn := .idle }) ∧
    t.lastTaken = .b

/-! ## Tracker (spec/01) -/

/-- TOOTH_ARRIVAL before sync (R4, R5, R7, R8, R9, R11, R21). In STOPPED the tracker moves to SEEKING with an empty window and
no period. In SEEKING a gap-like period makes the arriving tooth the candidate tooth, and any other is pushed: at most eight
periods, newest first, and the speed of the period pushed. In CANDIDATE a normal period is pushed in the same way and adds 1 to
the candidate count, which stops at N−M+1; a gap-like period at count N−M confirms the gap and enters CRANK_SYNC at tooth index
0; at any other count the candidate moves. -/
def Obligations.TeethBeforeSync : Prop :=
  ∀ (dt : Nat) (cam : Bool) (s : State),
    let now := s.now + dt
    (s.tracker.sync = .stopped → ∃ t, exec (.toothArrival dt cam) s = .next t ∧
      t.tracker = { s.tracker with sync := .seeking, window := [], speed := 0, lastTooth := some now, stallOn := true }) ∧
    (∀ last, s.tracker.sync = .seeking → s.tracker.lastTooth = some last →
      let p := now - last
      ∃ t, exec (.toothArrival dt cam) s = .next t ∧
        (GapLike s.tracker p → t.tracker = { s.tracker with
          sync := .candidate, phaseHeld := false, candidateCount := 0, prevCam := some cam,
          lastTooth := some now, stallOn := true }) ∧
        (¬GapLike s.tracker p → t.tracker = { s.tracker with
          window := (p :: s.tracker.window).take 8, speed := t.tracker.speed, lastTooth := some now, stallOn := true }) ∧
        (¬GapLike s.tracker p → ∀ w, s.tracker.copy = some w → 0 < p →
          t.tracker.speed = min 65535 (60000000 * (5760 / w.teeth) / (5760 * p)))) ∧
    (∀ last w, s.tracker.sync = .candidate → s.tracker.lastTooth = some last → s.tracker.copy = some w →
      let p := now - last
      ∃ t, exec (.toothArrival dt cam) s = .next t ∧
        (¬GapLike s.tracker p → t.tracker = { s.tracker with
          window := (p :: s.tracker.window).take 8, speed := t.tracker.speed,
          candidateCount := min (s.tracker.candidateCount + 1) (w.teeth - w.missing + 1),
          lastTooth := some now, stallOn := true }) ∧
        (¬GapLike s.tracker p → 0 < p → t.tracker.speed = min 65535 (60000000 * (5760 / w.teeth) / (5760 * p))) ∧
        (GapLike s.tracker p → s.tracker.candidateCount + 1 = w.teeth - w.missing → t.tracker = { s.tracker with
          sync := .crankSync, candidateCount := w.teeth - w.missing, tooth := 0, missedGaps := 0, prevCam := some cam,
          lastTooth := some now, stallOn := true }) ∧
        (GapLike s.tracker p → s.tracker.candidateCount + 1 ≠ w.teeth - w.missing → t.tracker = { s.tracker with
          candidateCount := 0, phaseHeld := false, prevCam := some cam, lastTooth := some now, stallOn := true }))

/-- TOOTH_ARRIVAL in CRANK_SYNC, FULL_SYNC or COASTING where no gap is due (R10, R15, R18, R21, R24): a normal period is pushed
with its speed and the tooth index advances by 1; with phase known the engine angle jumps to the tooth's angle. A gap-like
period is a tooth error, and the arriving tooth becomes the candidate tooth. (How jumps are remembered is the model's
bookkeeping, log 10.) -/
def Obligations.ToothBetweenGaps : Prop :=
  ∀ (dt : Nat) (cam : Bool) (s : State) (last : Nat) (w : WorkingCopy),
    Synced s.tracker → s.tracker.lastTooth = some last → s.tracker.copy = some w →
    s.tracker.tooth ≠ w.teeth - w.missing - 1 →
    let p := s.now + dt - last
    ∃ t, exec (.toothArrival dt cam) s = .next t ∧
      (¬GapLike s.tracker p → t.tracker = { s.tracker with
        window := (p :: s.tracker.window).take 8, speed := t.tracker.speed, tooth := s.tracker.tooth + 1,
        lastTooth := some (s.now + dt), stallOn := true, marks := t.tracker.marks }) ∧
      (¬GapLike s.tracker p → 0 < p → t.tracker.speed = min 65535 (60000000 * (5760 / w.teeth) / (5760 * p))) ∧
      (¬GapLike s.tracker p → PhaseKnown s.tracker → JumpMarked s (s.now + dt) s.tracker.marks.laps
        ((if s.tracker.rev then 5760 else 0) + (s.tracker.tooth + 1) * (5760 / w.teeth)) t.tracker.marks) ∧
      (¬GapLike s.tracker p → ¬PhaseKnown s.tracker → t.tracker.marks = s.tracker.marks) ∧
      (GapLike s.tracker p → t.tracker = { s.tracker with
        sync := .candidate, phaseHeld := false, candidateCount := 0, prevCam := some cam,
        lastTooth := some (s.now + dt), stallOn := true })

/-- TOOTH_ARRIVAL with a normal period where the gap is due, a missed gap (R11, R13, R14, R18, R20, R21, R24): the tooth is
taken as tooth index 0, the period is pushed with its speed, the previous cam sample becomes absent, and the missed-gap count
becomes 1 or steps by 1. At the coast limit the tracker enters SEEKING; otherwise it is in COASTING, with phase held if phase
was known, and then the revolution flips, the cycle count steps where revolution 0 begins, and the engine angle jumps to the
revolution's beginning. (How jumps and passings of 0 are remembered is the model's bookkeeping, log 10.) -/
def Obligations.MissedGapCoasts : Prop :=
  ∀ (dt : Nat) (cam : Bool) (s : State) (last : Nat) (w : WorkingCopy),
    Synced s.tracker → s.tracker.lastTooth = some last → s.tracker.copy = some w →
    s.tracker.tooth = w.teeth - w.missing - 1 →
    let p := s.now + dt - last
    ¬GapLike s.tracker p →
    let missed := if s.tracker.sync = .coasting then s.tracker.missedGaps + 1 else 1
    ∃ t, exec (.toothArrival dt cam) s = .next t ∧
      (0 < p → t.tracker.speed = min 65535 (60000000 * (5760 / w.teeth) / (5760 * p))) ∧
      (w.coastLimit ≤ missed → t.tracker = { s.tracker with
        sync := .seeking, phaseHeld := false, window := (p :: s.tracker.window).take 8, speed := t.tracker.speed,
        tooth := 0, prevCam := none, missedGaps := missed, lastTooth := some (s.now + dt), stallOn := true }) ∧
      (missed < w.coastLimit → ¬PhaseKnown s.tracker → t.tracker = { s.tracker with
        sync := .coasting, phaseHeld := false, window := (p :: s.tracker.window).take 8, speed := t.tracker.speed,
        tooth := 0, prevCam := none, missedGaps := missed, lastTooth := some (s.now + dt), stallOn := true }) ∧
      (missed < w.coastLimit → PhaseKnown s.tracker → t.tracker = { s.tracker with
        sync := .coasting, phaseHeld := true, window := (p :: s.tracker.window).take 8, speed := t.tracker.speed,
        tooth := 0, prevCam := none, missedGaps := missed, rev := !s.tracker.rev,
        cycles := if s.tracker.rev then s.tracker.cycles + 1 else s.tracker.cycles,
        lastTooth := some (s.now + dt), stallOn := true, marks := t.tracker.marks } ∧
        JumpMarked s (s.now + dt) (if s.tracker.rev then s.tracker.marks.laps + 1 else s.tracker.marks.laps)
          (if s.tracker.rev then 0 else 5760) t.tracker.marks)

/-- TOOTH_ARRIVAL with a gap-like period where the gap is due and phase is not known (R12, R14, R20, R24): if the previous cam
sample is present and differs, the tracker enters FULL_SYNC in the revolution that the sample tells, the cycle count steps if
phase was gained before, and points are watched anew from past the angle then set; otherwise it is in CRANK_SYNC. Tooth index 0
and the sample stored in either case. (The marks that say what is watched are the model's bookkeeping, log 10.) -/
def Obligations.GapGainsPhase : Prop :=
  ∀ (dt : Nat) (cam : Bool) (s : State) (last : Nat) (w : WorkingCopy),
    s.tracker.sync = .crankSync ∨ (s.tracker.sync = .coasting ∧ s.tracker.phaseHeld = false) →
    s.tracker.lastTooth = some last → s.tracker.copy = some w → s.tracker.tooth = w.teeth - w.missing - 1 →
    GapLike s.tracker (s.now + dt - last) →
    let missed := if s.tracker.sync = .coasting then 0 else s.tracker.missedGaps
    let angle := if cam = w.cam0 then 0 else 5760
    ∃ t, exec (.toothArrival dt cam) s = .next t ∧
      (s.tracker.prevCam = some (!cam) → t.tracker = { s.tracker with
        sync := .fullSync, tooth := 0, rev := cam != w.cam0, phaseMisses := 0, prevCam := some cam, missedGaps := missed,
        cycles := if s.tracker.phaseGained then s.tracker.cycles + 1 else s.tracker.cycles, phaseGained := true,
        lastTooth := some (s.now + dt), stallOn := true
        marks := { laps := 0, gainPos := angle, watchFrom := angle, jumps := [], armedAt := .fill none, withheldTo := .fill 0 } }) ∧
      (s.tracker.prevCam ≠ some (!cam) → t.tracker = { s.tracker with
        sync := .crankSync, tooth := 0, prevCam := some cam, missedGaps := missed,
        lastTooth := some (s.now + dt), stallOn := true })

/-- TOOTH_ARRIVAL with a gap-like period where the gap is due and phase is known (R14, R16, R18, R20, R24): the revolution
flips, and the sample is compared with the level expected for the new revolution. A match sets the phase-miss count to 0; a
mismatch steps it, and at the phase miss limit the tracker is in CRANK_SYNC. With phase still known the cycle count steps where
revolution 0 begins and the engine angle jumps to the revolution's beginning. (That the count does not step where phase is
dropped is the model's reading, log 9; how jumps and passings of 0 are remembered is its bookkeeping, log 10.) -/
def Obligations.PhaseCheckedAtGap : Prop :=
  ∀ (dt : Nat) (cam : Bool) (s : State) (last : Nat) (w : WorkingCopy),
    PhaseKnown s.tracker → s.tracker.lastTooth = some last → s.tracker.copy = some w →
    s.tracker.tooth = w.teeth - w.missing - 1 → GapLike s.tracker (s.now + dt - last) →
    let rev := !s.tracker.rev
    let expected := rev != w.cam0
    let misses := if cam = expected then 0 else s.tracker.phaseMisses + 1
    let dropped := cam ≠ expected ∧ w.phaseMissLimit ≤ misses
    ∃ t, exec (.toothArrival dt cam) s = .next t ∧
      t.tracker = { s.tracker with
        sync := if dropped then .crankSync else .fullSync
        phaseHeld := if s.tracker.sync = .coasting then false else s.tracker.phaseHeld
        missedGaps := if s.tracker.sync = .coasting then 0 else s.tracker.missedGaps
        tooth := 0, rev := rev, phaseMisses := misses, prevCam := some cam
        cycles := if rev = false ∧ ¬dropped then s.tracker.cycles + 1 else s.tracker.cycles
        lastTooth := some (s.now + dt), stallOn := true, marks := t.tracker.marks } ∧
      (dropped → t.tracker.marks = s.tracker.marks) ∧
      (¬dropped → JumpMarked s (s.now + dt) (if rev then s.tracker.marks.laps else s.tracker.marks.laps + 1)
        (if rev then 5760 else 0) t.tracker.marks)

/-- The law of R19: with a wheel in range, the engine angle at any time stays below the angle of the next expected tooth and
never passes 11,519; at the tooth itself it is the tooth's own angle (R18), and after it the interpolated part is S × time ÷
period, clamped one step short of the span. -/
def Obligations.InterpolationStaysShortOfNextTooth : Prop :=
  ∀ (t : Tracker) (w : WorkingCopy) (now last : Nat),
    t.copy = some w → 0 < w.teeth → w.missing < w.teeth → 5760 % w.teeth = 0 → t.tooth ≤ w.teeth - w.missing - 1 →
    t.lastTooth = some last →
    let sp := 5760 / w.teeth
    let base := if t.rev then 5760 else 0
    let span := if t.tooth = w.teeth - w.missing - 1 then (w.missing + 1) * sp else sp
    t.engineAngle now < base + t.tooth * sp + span ∧
    base + t.tooth * sp + span ≤ base + 5760 ∧
    t.engineAngle now ≤ 11519 ∧
    t.engineAngle last = base + t.tooth * sp ∧
    (∀ p rest, t.window = p :: rest → 0 < p → last < now →
      t.engineAngle now = base + t.tooth * sp + min (sp * (now - last) / p) (span - 1))

/-- STALL_EXPIRY (R17, R25): when the time since the last tooth has reached the stall timeout in force (the working copy's, or
1,000 ms without one, R1), the tracker enters STOPPED with everything R17 names cleared and the cycle count kept, the change is
handed to the cycle unit and the table engine, and it sets SYNC_CHANGE on both ports, with SYNC_LOST where the tooth index is
lost; before that nothing but time changes. -/
def Obligations.StallStopsTracker : Prop :=
  ∀ (dt : Nat) (s : State) (last : Nat), s.tracker.stallOn = true → s.tracker.lastTooth = some last →
    let timeout := 1000 * (match s.tracker.copy with | some w => w.stallMs | none => 1000)
    (last + timeout ≤ s.now + dt → ∃ t on, exec (.stallExpiry dt) s = .next t ∧
      t.tracker = { s.tracker with
        sync := .stopped, window := [], speed := 0, lastTooth := none, candidateCount := 0, tooth := 0, rev := false,
        missedGaps := 0, phaseMisses := 0, prevCam := none, phaseHeld := false, stallOn := false } ∧
      t = { s with now := s.now + dt, tracker := t.tracker, syncToCycle := t.syncToCycle,
                   syncToTable := t.syncToTable, ports := t.ports } ∧
      (s.tracker.sync ≠ .stopped → Noticed s t s.tracker.sync .stopped (PhaseKnown s.tracker) False) ∧
      (s.tracker.sync = .stopped → t.syncToCycle = s.syncToCycle ∧ t.syncToTable = s.syncToTable) ∧
      Raised s t on ∧
      (∀ p f, on p f = true ↔
        (f = .syncChange ∧ s.tracker.sync ≠ .stopped) ∨ (f = .syncLost ∧ Synced s.tracker))) ∧
    (s.now + dt < last + timeout → exec (.stallExpiry dt) s = .next { s with now := s.now + dt })

/-- Every tooth arrival, in any state, is handed to the cycle unit, after the tracker's own handling of it in the same step
(R26): one more tooth notice waits, and beside it only the tracker, the CAM_IN level last seen, sync change notices and the
ports may change. The cycle unit uses the notice to cut a service pulse in progress: taking it hands the bank arbiter a cut of a
service pulse that is DRIVING, and takes the notice alone where one is RELEASING or none is in progress (R178). (That a further
tooth taken before the drive end finds the pulse DRIVING and hands over a further cut is the model's choice, log 33.) -/
def Obligations.EveryToothArrivalIsHandedOver : Prop :=
  (∀ (dt : Nat) (cam : Bool) (s : State), ∃ t, exec (.toothArrival dt cam) s = .next t ∧
    t = { s with now := s.now + dt, camIn := cam, toothNotices := s.toothNotices + 1, tracker := t.tracker,
                 syncToCycle := t.syncToCycle, syncToTable := t.syncToTable, ports := t.ports }) ∧
  (∀ (dt : Nat) (s : State) (v : ServicePulse), 0 < s.toothNotices → s.service.inProgress = some v →
    v.phase = .driving →
    exec (.toothArrivalNotice dt) s = .next { s with
      now := s.now + dt
      toothNotices := s.toothNotices - 1
      lanes := s.lanes.set v.cyl { s.lane v.cyl with
        outbox := (s.lane v.cyl).outbox ++ [.cut (s.plan.bankOf v.cyl) (.service v.cyl)] } }) ∧
  (∀ (dt : Nat) (s : State), 0 < s.toothNotices → (∀ v, s.service.inProgress = some v → v.phase = .releasing) →
    exec (.toothArrivalNotice dt) s = .next { s with now := s.now + dt, toothNotices := s.toothNotices - 1 }) ∧
  (∀ (dt : Nat) (s : State), s.toothNotices = 0 → exec (.toothArrivalNotice dt) s = .next { s with now := s.now + dt })

/-- What a tooth arrival reports (R25): a change of sync state goes to the cycle unit and to the table engine with the old
state, the new state and phase before and after, and sets SYNC_CHANGE on both ports, with SYNC_LOST where phase or the tooth
index is lost; a tooth error sets TOOTH_ERROR and a phase-check mismatch PHASE_ERROR on both ports; nothing else is set. -/
def Obligations.ToothArrivalReports : Prop :=
  ∀ (dt : Nat) (cam : Bool) (s : State), ∃ t on, exec (.toothArrival dt cam) s = .next t ∧ Raised s t on ∧
    let old := s.tracker
    let new := t.tracker
    let gap := ∃ last, old.lastTooth = some last ∧ GapLike old (s.now + dt - last)
    let due := ∃ w, old.copy = some w ∧ old.tooth = w.teeth - w.missing - 1
    let mismatch := ∃ w, old.copy = some w ∧ cam ≠ ((!old.rev) != w.cam0)
    (∀ p, on p .syncChange = true ↔ new.sync ≠ old.sync) ∧
    (∀ p, on p .syncLost = true ↔
      new.sync ≠ old.sync ∧ ((Synced old ∧ ¬Synced new) ∨ (PhaseKnown old ∧ ¬PhaseKnown new))) ∧
    (∀ p, on p .toothError = true ↔ Synced old ∧ gap ∧ ¬due) ∧
    (∀ p, on p .phaseError = true ↔ PhaseKnown old ∧ gap ∧ due ∧ mismatch) ∧
    (∀ p f, on p f = true → f = .syncChange ∨ f = .syncLost ∨ f = .toothError ∨ f = .phaseError) ∧
    (new.sync = old.sync → t.syncToCycle = s.syncToCycle ∧ t.syncToTable = s.syncToTable) ∧
    (new.sync ≠ old.sync → Noticed s t old.sync new.sync (PhaseKnown old) (PhaseKnown new))

/-! ## Fields of frames -/

/-- Fields follow one another from bit 0 of parameter byte 1 upward (R154), and data fields from bit 0 of data byte 1 (R158): a
field read is the run of bits at its place, a field written stands at the sum of the widths before it, and parameter byte `k` of
a frame is its byte `k` + 1. A frame's bytes stand in the order of the wire, byte 0 first and each byte most significant bit
first (R144). A signed field is two's complement (R45). -/
def Obligations.FieldsPackedFromBitZero : Prop :=
  (∀ (ps : Params) (lo width i : Nat), (field ps lo width).testBit i = (decide (i < width) && ps.getLsbD (lo + i))) ∧
  (∀ (before after : List (Nat × Nat)) (width v i : Nat), i < width →
    (packBits (before ++ (width, v) :: after)).testBit ((before.map Prod.fst).sum + i) = v.testBit i) ∧
  (∀ (fields : List (Nat × Nat)) (i : Nat), (fields.map Prod.fst).sum ≤ i → (packBits fields).testBit i = false) ∧
  (∀ (bytes : List Byte) (k i : Nat) (b : Byte), bytes.length = 12 → bytes[k]? = some b → i < 8 →
    (wireOf bytes).getLsbD (8 * (11 - k) + i) = b.getLsbD i) ∧
  (∀ (w : Wire) (k i : Nat), k < 9 → i < 8 → (requestOf w).params.getLsbD (8 * k + i) = w.getLsbD (8 * (9 - k) + i)) ∧
  (∀ (w : Wire) (i : Nat), i < 8 → (requestOf w).code.getLsbD i = w.getLsbD (88 + i)) ∧
  (∀ (w : Wire) (i : Nat), i < 4 → (requestOf w).tag.getLsbD i = w.getLsbD (80 + i)) ∧
  (∀ (ps : Params) (lo width : Nat), 0 < width → signedField ps lo width =
    if (field ps lo width).testBit (width - 1) then (field ps lo width : Int) - 2 ^ width else field ps lo width)

/-! ## Engine plan (spec/02) -/

/-- PLAN_SET_ENGINE, PLAN_SET_TIMING and PLAN_SET_LIMITS (R28, R29, R30, R32, R36): refused with PLAN_CLOSED while the plan is
CLOSED, refused with RANGE where a field is out of its range, and otherwise the group is written whole with its set mark. -/
def Obligations.PlanSetGroupsWithoutIndex : Prop :=
  ∀ (dt : Nat) (s : State) (p : Port) (r : Request) (rest : List Request), s.NextIs p r rest →
    let f := field r.params
    let ok := fun pl : Plan => ({ s.taken dt p rest with plan := pl } : State).replied p r .ok 0
    let refused := fun x => (s.taken dt p rest).replied p r x 0
    (r.code = 0x01#8 → exec (.planSetEngine dt) s = .next (
      if s.plan.closed then refused .planClosed
      else if 1 ≤ f 0 4 ∧ f 0 4 ≤ 8 ∧ 12 ≤ f 4 7 ∧ f 4 7 ≤ 72 ∧ 5760 % f 4 7 = 0 ∧ 1 ≤ f 11 2 ∧ f 11 2 ≤ 3 ∧
          10 ≤ f 13 6 ∧ f 13 6 ≤ 32 then
        ok { s.plan with engine :=
          ⟨true, { count := f 0 4, teeth := f 4 7, missing := f 11 2, gapRatio := f 13 6, cam0 := decide (f 19 1 = 1) }⟩ }
      else refused .range)) ∧
    (r.code = 0x03#8 → exec (.planSetTiming dt) s = .next (
      if s.plan.closed then refused .planClosed
      else if 2880 ≤ f 0 13 ∧ f 0 13 ≤ 5760 ∧ 16 ≤ f 13 9 ∧ f 13 9 ≤ 480 ∧ 60 ≤ f 22 9 ∧ f 22 9 ≤ 500 ∧
          50 ≤ f 31 11 ∧ f 31 11 ≤ 2000 then
        ok { s.plan with timing :=
          ⟨true, { advance := f 0 13, minSeparation := f 13 9, minWidth := f 22 9, minDwell := f 31 11 }⟩ }
      else refused .range)) ∧
    (r.code = 0x07#8 → exec (.planSetLimits dt) s = .next (
      if s.plan.closed then refused .planClosed
      else if 1 ≤ f 0 4 ∧ f 0 4 ≤ 8 ∧ 1 ≤ f 4 4 ∧ f 4 4 ≤ 8 ∧ 50 ≤ f 8 10 ∧ f 8 10 ≤ 1000 ∧ 1 ≤ f 18 4 then
        ok { s.plan with limits :=
          ⟨true, { coast := f 0 4, phaseMiss := f 4 4, stallMs := f 8 10, isolation := f 18 4,
                   freshness := ⟨f 22 8, f 30 8⟩ }⟩ }
      else refused .range))

/-- PLAN_SET_CYLINDER, PLAN_SET_KIND, PLAN_SET_BANK and PLAN_SET_PROFILE (R28, R29, R31, R33, R34, R35): as the groups without
an index, with the index checked before the fields; the instance that the index names is written and no other. -/
def Obligations.PlanSetGroupsWithIndex : Prop :=
  ∀ (dt : Nat) (s : State) (p : Port) (r : Request) (rest : List Request), s.NextIs p r rest →
    let f := field r.params
    let ok := fun pl : Plan => ({ s.taken dt p rest with plan := pl } : State).replied p r .ok 0
    let refused := fun x => (s.taken dt p rest).replied p r x 0
    (r.code = 0x02#8 →
      (∀ c : Cyl, f 0 4 = c.num → exec (.planSetCylinder dt) s = .next (
        if s.plan.closed then refused .planClosed
        else if f 4 14 ≤ 11519 ∧ 1 ≤ f 20 14 ∧ f 20 14 ≤ 8640 then
          ok { s.plan with
            cylinder := s.plan.cylinder.set c
              ⟨true, { tdc := f 4 14, bank := fourOf (f 18 2), endLimit := f 20 14 }⟩ }
        else refused .range)) ∧
      ((∀ c : Cyl, f 0 4 ≠ c.num) → exec (.planSetCylinder dt) s =
        .next (refused (if s.plan.closed then .planClosed else .range)))) ∧
    (r.code = 0x04#8 →
      (∀ k : Kind, f 0 3 = kindCode k → exec (.planSetKind dt) s = .next (
        if s.plan.closed then refused .planClosed
        else if f 3 11 ≤ 2000 then
          ok { s.plan with kind := s.plan.kind.set k ⟨true, { tolerance := f 3 11, tiePort := portOf (f 14 1) }⟩ }
        else refused .range)) ∧
      ((∀ k : Kind, f 0 3 ≠ kindCode k) → exec (.planSetKind dt) s =
        .next (refused (if s.plan.closed then .planClosed else .range)))) ∧
    (r.code = 0x05#8 → ∀ b : Bank, f 0 2 = b.num → exec (.planSetBank dt) s = .next (
      if s.plan.closed then refused .planClosed
      else if f 2 12 ≤ 3000 ∧ f 14 9 ≤ 500 then
        ok { s.plan with bank := s.plan.bank.set b ⟨true, { recharge := f 2 12, preemptDelay := f 14 9 }⟩ }
      else refused .range)) ∧
    (r.code = 0x06#8 → ∀ i : ProfileIx, f 0 2 = i.num → exec (.planSetProfile dt) s = .next (
      if s.plan.closed then refused .planClosed
      else if 50 ≤ f 2 9 ∧ f 2 9 ≤ 300 ∧ 20 ≤ f 11 10 ∧ f 11 10 ≤ 1000 ∧ f 21 10 ≤ f 11 10 - 1 ∧
          10 ≤ f 31 8 ∧ f 31 8 ≤ 150 ∧ f 31 8 < f 2 9 ∧ 5 ≤ f 39 8 ∧ f 39 8 ≤ 200 ∧ 10 ≤ f 47 9 ∧ f 47 9 ≤ 500 ∧
          f 2 9 < f 56 9 ∧ f 56 9 ≤ 400 then
        ok { s.plan with
          profile := s.plan.profile.set i ⟨true, {
            peak := f 2 9, peakLimit := f 11 10, minPeak := f 21 10, hold := f 31 8, holdLoss := f 39 8
            releaseLimit := f 47 9, trip := f 56 9 }⟩ }
      else refused .range))

/-- PLAN_READ returns one group instance in either plan state (R37): the set mark, the plan state and the votes, then the fields
of the instance at the widths and in the order of the request that writes it, all 0 while it is unset. A group of 7, or an index
outside the group's range, is refused with RANGE. -/
def Obligations.PlanReadShowsOneInstance : Prop :=
  ∀ (dt : Nat) (s : State) (p : Port) (r : Request) (rest : List Request), s.NextIs p r rest → r.code = 0x08#8 →
    let group := field r.params 0 3
    let index := field r.params 3 4
    let part := field r.params 7 1
    let pl := s.plan
    let refused := exec (.planRead dt) s = .next ((s.taken dt p rest).replied p r .range 0)
    let shows := fun (isSet : Bool) (fields : List (Nat × Nat)) => exec (.planRead dt) s = .next ((s.taken dt p rest).replied p r .ok
      (packData ([(1, bit isSet), (1, bit pl.closed), (1, bit (pl.votes.get .a)), (1, bit (pl.votes.get .b))] ++
        if isSet then fields else [])))
    (group = 0 → shows pl.engine.isSet [(4, pl.engine.val.count), (7, pl.engine.val.teeth), (2, pl.engine.val.missing),
      (6, pl.engine.val.gapRatio), (1, bit pl.engine.val.cam0)]) ∧
    (group = 1 → ∀ c : Cyl, index = c.num → let g := pl.cylinder.get c
      shows g.isSet [(14, g.val.tdc), (2, g.val.bank.num), (14, g.val.endLimit)]) ∧
    (group = 1 → (∀ c : Cyl, index ≠ c.num) → refused) ∧
    (group = 2 → shows pl.timing.isSet [(13, pl.timing.val.advance), (9, pl.timing.val.minSeparation),
      (9, pl.timing.val.minWidth), (11, pl.timing.val.minDwell)]) ∧
    (group = 3 → ∀ k : Kind, index = kindCode k → let g := pl.kind.get k
      shows g.isSet [(11, g.val.tolerance), (1, g.val.tiePort.num)]) ∧
    (group = 3 → (∀ k : Kind, index ≠ kindCode k) → refused) ∧
    (group = 4 → ∀ b : Bank, index = b.num → let g := pl.bank.get b
      shows g.isSet [(12, g.val.recharge), (9, g.val.preemptDelay)]) ∧
    (group = 5 → ∀ i : ProfileIx, index = i.num → let g := pl.profile.get i
      (part = 0 → shows g.isSet [(9, g.val.peak), (10, g.val.peakLimit), (10, g.val.minPeak), (8, g.val.hold)]) ∧
      (part = 1 → shows g.isSet [(8, g.val.holdLoss), (9, g.val.releaseLimit), (9, g.val.trip)])) ∧
    (group = 4 ∨ group = 5 → (∀ i : Four, index ≠ i.num) → refused) ∧
    (group = 6 → let g := pl.limits.val
      shows pl.limits.isSet [(4, g.coast), (4, g.phaseMiss), (10, g.stallMs), (4, g.isolation), (8, g.freshness.get .a),
        (8, g.freshness.get .b)]) ∧
    (group = 7 → refused)

/-- PLAN_CLOSE (R38): refused with PLAN_CLOSED while the plan is CLOSED; while it is OPEN, the first of the ten checks that
fails refuses the request with its number and nothing is closed. -/
def Obligations.PlanCloseRefusedAtFirstFailingCheck : Prop :=
  ∀ (dt : Nat) (s : State) (p : Port) (r : Request) (rest : List Request), s.NextIs p r rest → r.code = 0x09#8 →
    (s.plan.closed = true → exec (.planClose dt) s = .next ((s.taken dt p rest).replied p r .planClosed 0)) ∧
    (s.plan.closed = false → ∀ n, 1 ≤ n → n ≤ 10 → (∀ m, 1 ≤ m → m < n → s.plan.ClosePasses m) → ¬s.plan.ClosePasses n →
      exec (.planClose dt) s = .next ((s.taken dt p rest).replied p r .planInvalid (BitVec.ofNat 48 n)))

/-- A PLAN_CLOSE that passes every check closes the plan, loads the tracker's working copy and sets PLAN_CHANGE on both ports
(R38, R39). The tracker takes the copy as R2 gives: with equal wheel fields its sync state stands; with other wheel fields a
tracker that counts is sent to SEEKING with its window kept; and a stall timer that has then reached the new timeout expires at
once (in this step: log 26). Each change is handed over and sets SYNC_CHANGE, with SYNC_LOST where the tooth index is lost
(R25). With equal wheel fields and phase known, points are watched from the angle now held on, and a cylinder armed since the
last passing of 0, or whose new arming point lies between that passing, or the gain of phase, and the angle now, gets no arming
point before the next passing (R2); as positions this is the model's bookkeeping (log 10, log 11). -/
def Obligations.PlanCloseLoadsWorkingCopy : Prop :=
  ∀ (dt : Nat) (s : State) (p : Port) (r : Request) (rest : List Request), s.NextIs p r rest → r.code = 0x09#8 →
    s.plan.closed = false → (∀ n, 1 ≤ n → n ≤ 10 → s.plan.ClosePasses n) →
    let base := (s.taken dt p rest).replied p r .ok 0
    let e := s.plan.engine.val
    let keeps := (∃ v, s.tracker.copy = some v ∧ v.teeth = e.teeth ∧ v.missing = e.missing ∧ v.gapRatio = e.gapRatio ∧
      v.cam0 = e.cam0) ∨ s.tracker.sync = .stopped ∨ s.tracker.sync = .seeking
    let stalls := s.tracker.stallOn = true ∧
      ∃ last, s.tracker.lastTooth = some last ∧ last + 1000 * s.plan.limits.val.stallMs ≤ s.now + dt
    let old := s.tracker
    let changes := ¬keeps ∨ (stalls ∧ old.sync ≠ .stopped)
    let lap := old.marks.laps * 11520
    let angle := old.position (s.now + dt)
    let arms := fun c : Cyl =>
      lap + ((s.plan.cylinder.get c).val.tdc + 11520 - s.plan.timing.val.advance) % 11520
    let withheld := fun c : Cyl => (∃ a, old.marks.armedAt.get c = some a ∧ lap ≤ a) ∨
      (max lap old.marks.gainPos ≤ arms c ∧ arms c ≤ angle)
    ∃ t w on, exec (.planClose dt) s = .next t ∧
      t = { base with plan := { s.plan with closed := true }, tracker := t.tracker, syncToCycle := t.syncToCycle,
                      syncToTable := t.syncToTable, ports := t.ports } ∧
      (t.tracker.copy = some w ∧ w.count = e.count ∧ w.teeth = e.teeth ∧ w.missing = e.missing ∧ w.gapRatio = e.gapRatio ∧
        w.cam0 = e.cam0 ∧ (∀ c, w.tdc.get c = (s.plan.cylinder.get c).val.tdc) ∧ w.advance = s.plan.timing.val.advance ∧
        w.coastLimit = s.plan.limits.val.coast ∧ w.phaseMissLimit = s.plan.limits.val.phaseMiss ∧
        w.stallMs = s.plan.limits.val.stallMs) ∧
      (¬stalls → keeps → t.tracker = { s.tracker with copy := some w, marks := t.tracker.marks }) ∧
      (¬stalls → ¬keeps → t.tracker = { s.tracker with copy := some w, sync := .seeking, phaseHeld := false }) ∧
      (stalls → t.tracker = { old with
        copy := some w, sync := .stopped, window := [], speed := 0, lastTooth := none, candidateCount := 0, tooth := 0, rev := false,
        missedGaps := 0, phaseMisses := 0, prevCam := none, phaseHeld := false, stallOn := false, marks := t.tracker.marks }) ∧
      (keeps → PhaseKnown old → t.tracker.marks = { old.marks with
          watchFrom := angle, withheldTo := t.tracker.marks.withheldTo } ∧
        ∀ c, (withheld c → t.tracker.marks.withheldTo.get c = lap + 11520) ∧
          (¬withheld c → t.tracker.marks.withheldTo.get c = old.marks.withheldTo.get c)) ∧
      (¬(keeps ∧ PhaseKnown old) → t.tracker.marks = old.marks) ∧
      (¬changes → t.syncToCycle = s.syncToCycle ∧ t.syncToTable = s.syncToTable) ∧
      (¬keeps → ¬stalls → Noticed s t old.sync .seeking (PhaseKnown old) False) ∧
      (keeps → stalls → old.sync ≠ .stopped → Noticed s t old.sync .stopped (PhaseKnown old) False) ∧
      (¬keeps → stalls → ∃ m, Noticed s m old.sync .seeking (PhaseKnown old) False ∧ Noticed m t .seeking .stopped False False) ∧
      Raised base t on ∧
      (∀ q f, on q f = true ↔
        f = .planChange ∨ (f = .syncChange ∧ changes) ∨ (f = .syncLost ∧ Synced old ∧ changes))

/-- PLAN_OPEN (R40, R41): the first of the five conditions that fails refuses the vote with its number; a vote with the other
port's vote absent is recorded; and with the other vote present the plan opens, which clears both votes and the firing tables,
steps every revision, keeps the plan's fields and marks, and sets PLAN_CHANGE on both ports. (That a record with pulses which is
on its way fails condition 3, and a bank whose acceptance is on its way condition 5, is the model's reading, log 27, and so is
that entries and an offer whose removals are on their way fail none, log 29.) -/
def Obligations.PlanOpenNeedsBothVotes : Prop :=
  ∀ (dt : Nat) (s : State) (p : Port) (r : Request) (rest : List Request), s.NextIs p r rest → r.code = 0x0A#8 →
    let holds : Nat → Prop := fun n =>
      if n = 1 then s.plan.closed = true
      else if n = 2 then s.tracker.sync = .stopped
      else if n = 3 then ∀ c, NothingArmed (s.lane c)
      else if n = 4 then s.service.inProgress = none
      else ∀ b, BankAtRest s b
    (∀ n, 1 ≤ n → n ≤ 5 → (∀ m, 1 ≤ m → m < n → holds m) → ¬holds n →
      exec (.planOpen dt) s = .next ((s.taken dt p rest).replied p r .state (BitVec.ofNat 48 n))) ∧
    ((∀ n, 1 ≤ n → n ≤ 5 → holds n) → s.plan.votes.get p.other = false →
      exec (.planOpen dt) s = .next (({ s.taken dt p rest with
        plan := { s.plan with votes := s.plan.votes.set p true } } : State).replied p r .ok
          (packData [(1, 0), (1, 1), (1, bit (decide (p = .a))), (1, bit (decide (p = .b)))]))) ∧
    ((∀ n, 1 ≤ n → n ≤ 5 → holds n) → s.plan.votes.get p.other = true →
      let base := (s.taken dt p rest).replied p r .ok 0
      ∃ t, exec (.planOpen dt) s = .next t ∧
        t = { base with
          plan := { s.plan with closed := false, votes := ⟨false, false⟩ }
          tables := { staging := .fill (.fill (.fill none)), contributions := .fill (.fill ⟨.absent, .fill none, .fill none, 0⟩),
                      active := t.tables.active, cutOut := .fill 0 }
          ports := t.ports } ∧
        (∀ c, t.tables.active.get c = ⟨[], (s.tables.active.get c).revision + 1⟩) ∧
        Raised base t (flagBoth .planChange))

/-- Every step keeps the law of the plan (R28, R29, R38, R40, R42): a set instance holds fields in range, a CLOSED plan passes
the ten checks of R38, and votes exist only while the plan is CLOSED. And every step keeps the law of R40: the plan is OPEN only
while no armed record is open, no service pulse is in progress and every bank is IDLE; with it go the records and acceptances on
their way (log 27), and the empty tables of R41. -/
def Obligations.EveryStepKeepsPlanLaw : Prop :=
  ∀ (s t : State), step s = .next t → (PlanLaw s.plan → PlanLaw t.plan) ∧ (OpenLaw s → OpenLaw t)

/-! ## Staging, publishing and merging (spec/03, spec/04) -/

/-- STAGE_PULSE and CLEAR_SLOT (R43, R45, R46, R47): refused with PLAN_OPEN while the plan is OPEN. While it is CLOSED the first
of the eight checks that fails refuses a STAGE_PULSE with its number, and a cylinder above the count refuses a CLEAR_SLOT with
1, and nothing is written; otherwise the slot is written whole or emptied, and the reply shows the slots of the cylinder that
hold a pulse. (A cylinder count above 8 is in no plan that a step writes.) -/
def Obligations.SlotRequestsWriteOneSlot : Prop :=
  ∀ (dt : Nat) (s : State) (p : Port) (r : Request) (rest : List Request) (slot profile : Four), s.NextIs p r rest →
    s.plan.count ≤ 8 → slot.num = field r.params 4 2 → profile.num = field r.params 9 2 →
    let n := field r.params 0 4
    let k := field r.params 6 3
    let start := signedField r.params 11 14
    let duration := field r.params 25 15
    let advance : Int := s.plan.timing.val.advance
    let passes : Nat → Prop := fun m =>
      if m = 1 then 1 ≤ n ∧ n ≤ s.plan.count
      else if m = 2 then 1 ≤ k ∧ k ≤ 4
      else if m = 3 then (s.plan.profile.get profile).isSet = true
      else if m = 4 then s.plan.timing.val.minWidth ≤ duration
      else if m = 5 then duration ≤ 20000
      else if m = 6 then -advance + 64 ≤ start
      else if m = 7 then start ≤ 6720 ∧ start ≤ 11456 - advance
      else ∀ c : Cyl, c.num = n → start < ((s.plan.cylinder.get c).val.endLimit : Int)
    let refused := fun (x : Result) (m : Nat) => (s.taken dt p rest).replied p r x (BitVec.ofNat 48 m)
    let written := fun (c : Cyl) (u : Option Pulse) =>
      let slots := (s.tables.staged p c).set slot u
      let shown := fun i => bit (slots.get i).isSome
      ({ s.taken dt p rest with tables := s.tables.setStaged p c slots } : State).replied p r .ok
        (packData [(1, shown .i0), (1, shown .i1), (1, shown .i2), (1, shown .i3)])
    (r.code = 0x10#8 → s.plan.closed = false → exec (.stagePulse dt) s = .next (refused .planOpen 0)) ∧
    (r.code = 0x10#8 → s.plan.closed = true → ∀ m, 1 ≤ m → m ≤ 8 → (∀ j, 1 ≤ j → j < m → passes j) → ¬passes m →
      exec (.stagePulse dt) s = .next (refused .range m)) ∧
    (r.code = 0x10#8 → s.plan.closed = true → (∀ m, 1 ≤ m → m ≤ 8 → passes m) →
      ∃ (c : Cyl) (kind : Kind), c.num = n ∧ kindCode kind = k ∧
        exec (.stagePulse dt) s = .next (written c (some ⟨kind, profile, start, duration⟩))) ∧
    (r.code = 0x11#8 → s.plan.closed = false → exec (.clearSlot dt) s = .next (refused .planOpen 0)) ∧
    (r.code = 0x11#8 → s.plan.closed = true → n = 0 ∨ s.plan.count < n →
      exec (.clearSlot dt) s = .next (refused .range 1)) ∧
    (r.code = 0x11#8 → s.plan.closed = true → 1 ≤ n → n ≤ s.plan.count →
      ∃ c : Cyl, c.num = n ∧ exec (.clearSlot dt) s = .next (written c none))

/-- CLEAR_STAGE, PUBLISH and WITHDRAW are refused with PLAN_OPEN while the plan is OPEN, and with RANGE 1 where the mask names a
cylinder above the count; nothing is done for any cylinder then (R43, R48). Otherwise CLEAR_STAGE empties the slots of every
cylinder of its mask in the port's own staging area and nothing else (R49). -/
def Obligations.MaskRequestsActWholeOrNotAtAll : Prop :=
  ∀ (dt : Nat) (s : State) (p : Port) (r : Request) (rest : List Request) (i : Instr), s.NextIs p r rest →
    (r.code = 0x12#8 ∧ i = .clearStage dt) ∨ (r.code = 0x13#8 ∧ i = .publish dt) ∨ (r.code = 0x14#8 ∧ i = .withdraw dt) →
    (s.plan.closed = false → exec i s = .next ((s.taken dt p rest).replied p r .planOpen 0)) ∧
    (s.plan.closed = true → (∃ c : Cyl, r.params.getLsbD (c.num - 1) = true ∧ s.plan.count < c.num) →
      exec i s = .next ((s.taken dt p rest).replied p r .range 1)) ∧
    (s.plan.closed = true → (∀ c : Cyl, r.params.getLsbD (c.num - 1) = true → c.num ≤ s.plan.count) → r.code = 0x12#8 →
      ∃ t, exec i s = .next t ∧
        t = ({ s.taken dt p rest with tables := { s.tables with staging := t.tables.staging } } : State).replied p r .ok
          (dataBytes [field r.params 0 8]) ∧
        (∀ c, t.tables.staged p c = if r.params.getLsbD (c.num - 1) then .fill none else s.tables.staged p c) ∧
        (∀ c, t.tables.staged p.other c = s.tables.staged p.other c))

/-- PUBLISH and WITHDRAW on every cylinder of the mask (R48, R52, R53, R62, R63, R72, R73, R74): the port's contribution becomes
a LIVE copy of its staged slots with age 0, or WITHDRAWN with pulses, age and verdicts kept; the active list is recomputed from
both contributions, verdicts go to those that are LIVE, and the revision steps; MERGE_EXCLUDED is set on each port that has a
newly excluded pulse. Other cylinders keep everything. PUBLISH answers which contributions just published hold an excluded
pulse. -/
def Obligations.PublishAndWithdrawRecompute : Prop :=
  ∀ (dt : Nat) (s : State) (p : Port) (r : Request) (rest : List Request) (i : Instr), s.NextIs p r rest →
    (r.code = 0x13#8 ∧ i = .publish dt) ∨ (r.code = 0x14#8 ∧ i = .withdraw dt) →
    s.plan.closed = true → (∀ c : Cyl, r.params.getLsbD (c.num - 1) = true → c.num ≤ s.plan.count) →
    let named := fun c : Cyl => r.params.getLsbD (c.num - 1)
    let changed := fun (q : Port) (c : Cyl) =>
      let k := s.tables.contribution q c
      if q ≠ p then k
      else if r.code = 0x13#8 then ⟨.live, s.tables.staged p c, .fill none, 0⟩
      else { k with state := .withdrawn }
    ∃ t data on, exec i s = .next t ∧
      (let base := (s.taken dt p rest).replied p r .ok data
       t = { base with tables := { s.tables with contributions := t.tables.contributions, active := t.tables.active },
                       ports := t.ports } ∧ Raised base t on) ∧
      (∀ c, named c = true →
        let vs := s.plan.verdicts (changed .a c) (changed .b c)
        t.tables.active.get c = ⟨s.plan.mergeList (changed .a c) (changed .b c), (s.tables.active.get c).revision + 1⟩ ∧
        ∀ q, t.tables.contribution q c = (changed q c).withVerdicts vs q) ∧
      (∀ c, named c = false → t.tables.active.get c = s.tables.active.get c ∧
        ∀ q, t.tables.contribution q c = s.tables.contribution q c) ∧
      (∀ q f, on q f = true ↔ f = .mergeExcluded ∧ ∃ c, named c = true ∧
        newlyExcluded (changed q c) (t.tables.contribution q c) = true) ∧
      (r.code = 0x14#8 → data = dataBytes [field r.params 0 8]) ∧
      (r.code = 0x13#8 → ∃ m : BitVec 8, data = dataBytes [field r.params 0 8, m.toNat] ∧
        ∀ c : Cyl, m.getLsbD (c.num - 1) = (named c && (t.tables.contribution p c).hasExcluded))

/-- CUTOUT_SET writes the port's cut-out mask, in either plan state, and answers both masks (R43, R89). REINSTATE clears the
isolation and the count of a cylinder and answers what they were; a cylinder outside 1 to 8 is refused with RANGE 1 (R140). -/
def Obligations.CutoutAndReinstate : Prop :=
  ∀ (dt : Nat) (s : State) (p : Port) (r : Request) (rest : List Request), s.NextIs p r rest →
    (r.code = 0x18#8 → exec (.cutoutSet dt) s = .next (({ s.taken dt p rest with
      tables := { s.tables with cutOut := s.tables.cutOut.set p (BitVec.ofNat 8 (field r.params 0 8)) } } : State).replied p r .ok
        (packData [(8, field r.params 0 8), (8, (s.tables.cutOut.get p.other).toNat)]))) ∧
    (r.code = 0x19#8 → ∀ c : Cyl, field r.params 0 4 = c.num → exec (.reinstate dt) s = .next (({ s.taken dt p rest with
      faults := s.faults.set c { s.faultsOf c with count := 0, isolated := false } } : State).replied p r .ok
        (packData [(4, (s.faultsOf c).count), (1, bit (s.faultsOf c).isolated)]))) ∧
    (r.code = 0x19#8 → (∀ c : Cyl, field r.params 0 4 ≠ c.num) →
      exec (.reinstate dt) s = .next ((s.taken dt p rest).replied p r .range 1))

/-- Step 2 of an arming notice for cylinder c (R55): each LIVE contribution for c has its age increased by 1, held at 255,
whether or not its pulses were accepted, it holds any, or the cylinder is cut out or isolated; contributions that are not LIVE,
and those for other cylinders, are not stepped. -/
def Obligations.ArmingNoticeStepsLiveAges : Prop :=
  ∀ (dt : Nat) (c : Cyl) (s : State) (a : Arming), (s.lane c).arming = some a → a.answer = none →
    ∃ t, exec (.armingNotice dt c) s = .next t ∧ ∀ (p : Port) (d : Cyl),
      (t.tables.contribution p d).age =
        if d = c ∧ (s.tables.contribution p d).state = .live then min ((s.tables.contribution p d).age + 1) 255
        else (s.tables.contribution p d).age

/-- ARMING_NOTICE, taken whole (R54, R56, R57, R62, R72, R74): the answer is the list, the revision and the cut-out as they
stood before; then ages step, each LIVE contribution at its port's non-zero freshness limit becomes EXPIRED with its flags on
both ports, and the list is recomputed once if any did, and is left otherwise. -/
def Obligations.ArmingNoticeAnswersAndExpires : Prop :=
  ∀ (dt : Nat) (c : Cyl) (s : State) (a : Arming), (s.lane c).arming = some a → a.answer = none →
    let stepped := fun q : Port =>
      let k := s.tables.contribution q c
      if k.state = .live then { k with age := min (k.age + 1) 255 } else k
    let limit := fun q : Port => s.plan.limits.val.freshness.get q
    let expires := fun q : Port => decide ((stepped q).state = .live ∧ limit q ≠ 0 ∧ (stepped q).age = limit q)
    let left := fun q : Port => if expires q then { stepped q with state := .expired } else stepped q
    let vs := s.plan.verdicts (left .a) (left .b)
    ∃ t on, exec (.armingNotice dt c) s = .next t ∧ Raised s t on ∧
      t = { s with
        now := s.now + dt
        lanes := s.lanes.set c { s.lane c with arming := some { a with answer := some {
          entries := (s.tables.active.get c).entries
          revision := (s.tables.active.get c).revision
          cutOut := (s.tables.cutOut.get .a).getLsbD (c.num - 1) || (s.tables.cutOut.get .b).getLsbD (c.num - 1) } } }
        tables := { s.tables with contributions := t.tables.contributions, active := t.tables.active }
        ports := t.ports } ∧
      (∀ d, d ≠ c → t.tables.active.get d = s.tables.active.get d ∧
        ∀ q, t.tables.contribution q d = s.tables.contribution q d) ∧
      (expires .a = false → expires .b = false → t.tables.active.get c = s.tables.active.get c ∧
        ∀ q, t.tables.contribution q c = stepped q) ∧
      (expires .a = true ∨ expires .b = true →
        t.tables.active.get c = ⟨s.plan.mergeList (left .a) (left .b), (s.tables.active.get c).revision + 1⟩ ∧
        ∀ q, t.tables.contribution q c = (left q).withVerdicts vs q) ∧
      (∀ q f, on q f = true ↔ (f = .contribExpired ∧ expires q = true) ∨ (f = .peerExpired ∧ expires q.other = true) ∨
        (f = .mergeExcluded ∧ newlyExcluded (left q) (t.tables.contribution q c) = true))

/-- The ranking of candidates (R65): two candidates are compared by the first key in which they differ, and the order is total:
of two different candidates exactly one ranks before the other, and the order is transitive. Two candidates differ in port or
position. -/
def Obligations.RankingIsTotal : Prop :=
  ∀ (pl : Plan) (x y z : Merged),
    (kindRank .post < kindRank .after ∧ kindRank .after < kindRank .pilot ∧ kindRank .pilot < kindRank .main) ∧
    (kindRank y.pulse.kind < kindRank x.pulse.kind → pl.ranksBefore x y = true) ∧
    (x.pulse.kind = y.pulse.kind → x.port ≠ y.port →
      (pl.ranksBefore x y = true ↔ x.port = (pl.kind.get x.pulse.kind).val.tiePort)) ∧
    (x.pulse.kind = y.pulse.kind → x.port = y.port → x.pulse.start < y.pulse.start → pl.ranksBefore x y = true) ∧
    (x.pulse.kind = y.pulse.kind → x.port = y.port → x.pulse.start = y.pulse.start → x.slot.num < y.slot.num →
      pl.ranksBefore x y = true) ∧
    ((x.port ≠ y.port ∨ x.slot ≠ y.slot) → (pl.ranksBefore x y = true ↔ pl.ranksBefore y x = false)) ∧
    (pl.ranksBefore x y = true → pl.ranksBefore y z = true → pl.ranksBefore x z = true)

/-- What a merge leaves (R61, R64, R65, R67, R69, R70, R71, R72): with the plan's minimum separation at least 1, the list is in
strict start-angle order, its entries are candidates of the LIVE contributions, any two are at least the minimum separation
apart, at most six, and at most one MAIN. The verdicts take every candidate once, in ranking order, each judged by the three
tests in their order against those accepted before it; and a LIVE contribution receives at each position the verdict on its own
candidate, none where it holds no pulse, while another keeps the verdicts it has. -/
def Obligations.MergedListKeepsItsBounds : Prop :=
  ∀ (pl : Plan) (ka kb : Contribution), 1 ≤ pl.timing.val.minSeparation →
    let l := pl.mergeList ka kb
    let vs := pl.verdicts ka kb
    let candidate := fun m : Merged => let k := match m.port with | .a => ka | .b => kb
      k.state = .live ∧ k.pulses.get m.slot = some m.pulse
    l.length ≤ 6 ∧
    l.Pairwise (fun x y => x.pulse.start + (pl.timing.val.minSeparation : Int) ≤ y.pulse.start) ∧
    l.Pairwise (fun x y => ¬(x.pulse.kind = .main ∧ y.pulse.kind = .main)) ∧
    (∀ m ∈ l, candidate m) ∧
    (∀ m, m ∈ l ↔ (m, .accepted) ∈ vs) ∧
    (∀ m, (∃ v, (m, v) ∈ vs) ↔ candidate m) ∧
    vs.Pairwise (fun x y => x.1 ≠ y.1 ∧ pl.ranksBefore x.1 y.1 = true) ∧
    (∀ i m v, vs[i]? = some (m, v) →
      v = pl.judge (((vs.take i).filter fun x => decide (x.2 = .accepted)).map Prod.fst) m) ∧
    (∀ (q : Port), let k := match q with | .a => ka | .b => kb
      (k.state ≠ .live → k.withVerdicts vs q = k) ∧
      (k.state = .live → k.withVerdicts vs q = { k with verdicts := (k.withVerdicts vs q).verdicts } ∧
        ∀ i, (k.pulses.get i = none → (k.withVerdicts vs q).verdicts.get i = none) ∧
          ∀ u, k.pulses.get i = some u →
            ∃ v, (k.withVerdicts vs q).verdicts.get i = some v ∧ (⟨u, q, i⟩, v) ∈ vs)) ∧
    (∀ accepted m, pl.judge accepted m =
      if 6 ≤ accepted.length then .excluded .limit
      else if ∃ a ∈ accepted, (m.pulse.start - a.pulse.start).natAbs < pl.timing.val.minSeparation then .excluded .spacing
      else if m.pulse.kind = .main ∧ ∃ a ∈ accepted, a.pulse.kind = .main then .excluded .secondMain
      else .accepted)

/-- The law of R63: every step keeps each active list the merge of the two contributions under the plan, and empty of LIVE
contributions while the plan is OPEN. -/
def Obligations.EveryStepKeepsMergeLaw : Prop :=
  ∀ (s t : State), MergeLaw s → step s = .next t → MergeLaw t

/-! ## Points, armings and records (spec/01 section 1.5, spec/05) -/

/-- Where the next arming point of a cylinder lies (R22): at engine angle (TDC − arming advance) modulo 11,520, past the point
watched from and past the cylinder's last one, and the first such; and a start point lies arming advance plus start angle ahead
of the arming point that armed its record (R23). And when a point is at hand (R22 to R24): phase is known, the angle has reached
it, the points are taken in the order of the angle, and those that follow an arming point within one jump wait for its record.
Positions beyond one cycle and the points withheld after a load are the model's bookkeeping (log 10, log 11), and so is that no
point is at hand while a loss of phase waits for the cycle unit (log 12). -/
def Obligations.PointsLieWhereThePlanPutsThem : Prop :=
  (∀ (t : Tracker) (w : WorkingCopy) (c : Cyl), w.tdc.get c ≤ 11519 → w.advance ≤ 5760 →
    let x := t.nextArming w c
    ((x : Int) - ((w.tdc.get c : Int) - w.advance)) % 11520 = 0 ∧
    t.marks.watchFrom < x ∧ (∀ a, t.marks.armedAt.get c = some a → a < x) ∧ t.marks.withheldTo.get c ≤ x ∧
    (∀ y, t.marks.watchFrom < y → (∀ a, t.marks.armedAt.get c = some a → a < y) → t.marks.withheldTo.get c ≤ y →
      ((y : Int) - ((w.tdc.get c : Int) - w.advance)) % 11520 = 0 → x ≤ y)) ∧
  (∀ (r : Record) (q : ArmedPulse), -(r.advance : Int) ≤ q.merged.pulse.start →
    (r.startPos q : Int) = r.armPos + r.advance + q.merged.pulse.start) ∧
  (∀ (t : Tracker) (now : Nat), t.position now = t.marks.laps * 11520 + t.engineAngle now) ∧
  (∀ (dt : Nat) (s : State) (pos : Nat), (s.advance dt).pointReached pos = true ↔ PointAtHand s (s.now + dt) pos)

/-- ARMING_POINT (R85, R86, R98, R99): the pulse of a superseded record that drives is CUT, with its energized time measured to
now, and its bank is handed the cut; each PENDING or DUE pulse of the current record is DROPPED(OVERRUN), and one in the wait
queue is removed from it; a current record that still drives becomes the superseded record, another closes; and the arming
begins with the engine cycle count as it stands. CUT and dropped pulses set their flags on their ports of origin. Each DUE pulse
with blocker BANK gives one removal and each ENERGIZED pulse one cut (R85, R96, R108). An arming point that is not at hand, of
no cylinder of the working copy, or of a cylinder with an arming in course, is not delivered. (The point's position, the marks
of armings, what is at hand and the cycle count already stepped in a jump over 0 are the model's reading, log 10; the arming
advance kept with the arming is log 11; that a loss of phase under way holds points back is log 12.) -/
def Obligations.ArmingPointClosesOldCycle : Prop :=
  (∀ (r : Record) (b : Bank) (c : Cyl),
    (r.removals b c = r.pulses.zipIdx.filterMap fun x => match x.1.state with
      | .due _ _ .bank => some (.removal b ⟨c, r.cycle, x.2, x.1.merged.pulse.kind⟩)
      | _ => none) ∧
    (r.cuts b c = r.pulses.zipIdx.filterMap fun x => match x.1.state with
      | .energized _ => some (.cut b (.scheduled ⟨c, r.cycle, x.2, x.1.merged.pulse.kind⟩))
      | _ => none)) ∧
  (∀ (dt : Nat) (c : Cyl) (s : State),
    (∀ w, s.tracker.copy = some w → w.count < c.num ∨ (s.lane c).arming ≠ none ∨
      ¬PointAtHand s (s.now + dt) (s.tracker.nextArming w c)) →
    exec (.armingPoint dt c) s = .next { s with now := s.now + dt }) ∧
  ∀ (dt : Nat) (c : Cyl) (s : State) (w : WorkingCopy), s.tracker.copy = some w → c.num ≤ w.count →
    (s.lane c).arming = none → PointAtHand s (s.now + dt) (s.tracker.nextArming w c) →
    let l := s.lane c
    let b := s.plan.bankOf c
    let now := s.now + dt
    let pos := s.tracker.nextArming w c
    let overrun := fun r : Record => { r with pulses := r.pulses.map fun q =>
      if q.state.waits then { q with state := .dropped .overrun } else q }
    let cutOff := fun r : Record => { r with pulses := r.pulses.map fun q => match q.state with
      | .energized granted => { q with state := .cut, energized := now - granted }
      | _ => q }
    ∃ t on, exec (.armingPoint dt c) s = .next t ∧ Raised s t on ∧
      t = { s with
        now := now
        lanes := s.lanes.set c (t.lane c)
        tracker := { s.tracker with marks :=
          { s.tracker.marks with armedAt := s.tracker.marks.armedAt.set c (some pos) } }
        ports := t.ports } ∧
      t.lane c = { l with
        current := none
        superseded := match l.current with | some r => if r.drives then some (overrun r) else none | none => none
        last := match l.current, l.superseded with
          | some r, some x => if r.drives then some (cutOff x) else some (overrun r)
          | some r, none => if r.drives then l.last else some (overrun r)
          | none, some x => some (cutOff x)
          | none, none => l.last
        arming := some ⟨s.tracker.cycles, pos, w.advance, none, none⟩
        outbox := l.outbox ++
          (match l.superseded with | some x => x.cuts b c | none => []) ++
          (match l.current with | some r => r.removals b c | none => []) } ∧
      (∀ q f, on q f = true ↔
        (f = .pulseCut ∧ ∃ x, l.superseded = some x ∧ ∃ u ∈ x.pulses, u.merged.port = q ∧ u.state.drives = true) ∨
        (f = .pulseDropped ∧ ∃ r, l.current = some r ∧ ∃ u ∈ r.pulses, u.merged.port = q ∧ u.state.waits = true))

/-- ARMING_ANSWER (R86, R88, R99): the new current record carries the cycle number of the arming point and the revision of the
list; without cut-out and isolation it holds every list entry as PENDING, in list order; a cut-out or isolated cylinder's record
is empty and flagged. A record of which nothing is open closes at once. A loss of phase taken since the arming point drops every
pulse of the new record with the reason of R96. -/
def Obligations.ArmingAnswerMakesTheRecord : Prop :=
  ∀ (dt : Nat) (c : Cyl) (s : State) (a : Arming) (x : ArmingAnswer),
    (s.lane c).arming = some a → a.answer = some x →
    let isolated := (s.faultsOf c).isolated
    let state := match a.loss with | some reason => PulseState.dropped reason | none => .pending
    let pulses := if x.cutOut || isolated then [] else x.entries.map fun m =>
      ({ merged := m, state := state, late := false, clipped := false, earlyPeak := false, energized := 0, lateness := 0 } :
        ArmedPulse)
    let r : Record := { cycle := a.cycle, revision := x.revision, cutOut := x.cutOut, isolated := isolated, pulses := pulses,
                        armPos := a.pos, advance := a.advance }
    let l := s.lane c
    ∃ t on, exec (.armingAnswer dt c) s = .next t ∧ Raised s t on ∧
      t = { s with now := s.now + dt, ports := t.ports, lanes := s.lanes.set c (
        if pulses = [] ∨ a.loss ≠ none then { l with arming := none, current := none, last := some r }
        else { l with arming := none, current := some r }) } ∧
      (∀ q f, on q f = true ↔ f = .pulseDropped ∧ a.loss ≠ none ∧ ∃ u ∈ pulses, u.merged.port = q)

/-- The cylinder gate (R91, R92): it is open when the injector is READY and no pulse of the lane stands in a wait queue; while
it is open, the earliest DUE pulse with blocker CYLINDER is handed to the bank with its due time and now waits with blocker
BANK, which closes the gate; and with the gate closed, or no such pulse, nothing is handed over. DWELL_END makes the injector
READY and opens the gate when the dwell end time is reached; before it nothing but time changes. An entry is handed over with a
turn past those of all entries on their way, which keeps the order of R107 (the turn is the model's bookkeeping, log 14). -/
def Obligations.DwellEndOpensTheGate : Prop :=
  (∀ (dt : Nat) (c : Cyl) (s : State) (ends : Nat), (s.lane c).injector = .dwell ends →
    (s.now + dt < ends → exec (.dwellEnd dt c) s = .next { s with now := s.now + dt }) ∧
    (ends ≤ s.now + dt → exec (.dwellEnd dt c) s = .next { s with
      now := s.now + dt
      lanes := s.lanes.set c
        (({ s.lane c with injector := .ready } : Lane).handOver (s.plan.cylinder.get c).val.bank c s.nextTurn) })) ∧
  (∀ (s : State) (c : Cyl) (b : Bank) (e : QueueEntry) (turn : Nat),
    .entry b e turn ∈ (s.lane c).outbox → turn < s.nextTurn) ∧
  (∀ (l : Lane) (b : Bank) (c : Cyl) (turn : Nat), l.current = none → l.handOver b c turn = l) ∧
  ∀ (l : Lane) (b : Bank) (c : Cyl) (turn : Nat) (r : Record), l.current = some r →
    let opened := l.injector = .ready ∧ ∀ q ∈ r.pulses, ∀ a d, q.state ≠ .due a d .bank
    (¬opened → l.handOver b c turn = l) ∧
    ((∀ q ∈ r.pulses, ∀ a d, q.state ≠ .due a d .cylinder) → l.handOver b c turn = l) ∧
    (opened → ∀ i q a d, r.pulses[i]? = some q → q.state = .due a d .cylinder →
      (∀ j u, j < i → r.pulses[j]? = some u → ∀ a d, u.state ≠ .due a d .cylinder) →
      l.handOver b c turn = { l with
        current := some { r with pulses := r.pulses.set i { q with state := .due a d .bank } }
        outbox := l.outbox ++ [.entry b ⟨⟨c, r.cycle, i, q.merged.pulse.kind⟩, a⟩ turn] })

/-- START_POINT of a PENDING pulse whose point is at hand (R24, R90): the pulse becomes DUE, with the moment of delivery as its
due time, its kind's start tolerance after it as its deadline, and LATE if a jump passed the point strictly before its tooth's
angle; it goes to the bank if the gate is open and waits with blocker CYLINDER otherwise. A pulse that is not PENDING, or whose
point is not at hand, is left. (Positions, the jumps remembered and what is at hand are the model's reading, log 10 and log 12.) -/
def Obligations.StartPointMakesThePulseDue : Prop :=
  (∀ (dt : Nat) (c : Cyl) (pos : Nat) (s : State),
    (∀ r q, (s.lane c).current = some r → r.pulses[pos]? = some q → q.state = .pending →
      ¬PointAtHand s (s.now + dt) (r.startPos q)) →
    exec (.startPoint dt c pos) s = .next { s with now := s.now + dt }) ∧
  ∀ (dt : Nat) (c : Cyl) (pos : Nat) (s : State) (r : Record) (q : ArmedPulse),
    (s.lane c).current = some r → r.pulses[pos]? = some q → q.state = .pending →
    PointAtHand s (s.now + dt) (r.startPos q) →
    let now := s.now + dt
    let due := { q with
      state := .due now (now + (s.plan.kind.get q.merged.pulse.kind).val.tolerance) .cylinder
      late := decide (∃ j ∈ s.tracker.marks.jumps, j.start < r.startPos q ∧ r.startPos q < j.stop) }
    exec (.startPoint dt c pos) s = .next { s with
      now := now
      lanes := s.lanes.set c (({ s.lane c with current := some { r with pulses := r.pulses.set pos due } } : Lane).handOver
        (s.plan.cylinder.get c).val.bank c s.nextTurn) }

/-- DEADLINE_EXPIRY of a DUE pulse whose deadline is reached (R93, R98, R99): it is DROPPED(TOLERANCE) with its blocker as the
detail and PULSE_DROPPED on its port of origin; one in the wait queue is removed from it; the record closes if nothing of it is
left open; and the gate hands over the next. Before the deadline nothing but time changes. -/
def Obligations.DeadlineDropsThePulse : Prop :=
  ∀ (dt : Nat) (c : Cyl) (pos : Nat) (s : State) (r : Record) (q : ArmedPulse) (since limit : Nat) (blocker : Blocker),
    (s.lane c).current = some r → r.pulses[pos]? = some q → q.state = .due since limit blocker →
    let b := (s.plan.cylinder.get c).val.bank
    let dropped := { r with pulses := r.pulses.set pos { q with state := .dropped (.tolerance blocker) } }
    let leave := match blocker with
      | .bank => [BankMessage.removal b ⟨c, r.cycle, pos, q.merged.pulse.kind⟩]
      | .cylinder => []
    let l := { s.lane c with current := some dropped, outbox := (s.lane c).outbox ++ leave }
    (s.now + dt < limit → exec (.deadlineExpiry dt c pos) s = .next { s with now := s.now + dt }) ∧
    (limit ≤ s.now + dt → ∃ t, exec (.deadlineExpiry dt c pos) s = .next t ∧
      t = { s with now := s.now + dt, ports := t.ports, lanes := s.lanes.set c (l.closeCurrent.handOver b c s.nextTurn) } ∧
      Raised s t (fun p f => decide (p = q.merged.port ∧ f = .pulseDropped)))

/-- GRANT_OFFER of the bank to a DUE pulse in its queue, with phase known and the deadline not passed (R94, R96, R98): the end
angle is projected from the angle now reached; at or below the end limit the offer is accepted with the duration unchanged; past
it the duration is cut to what is left, and the offer is accepted, with CLIPPED and PULSE_CLIPPED, or refused as
DROPPED(END_LIMIT) where that is below the minimum pulse width. An accepted pulse is ENERGIZED with its lateness, and the
injector is DRIVING. (An offer after the deadline or while a loss of phase waits does not reach the pulse, log 12, log 20.) -/
def Obligations.GrantOfferClipsToTheEndLimit : Prop :=
  ∀ (dt : Nat) (b : Bank) (s : State) (e : QueueEntry) (r : Record) (q : ArmedPulse) (since limit : Nat) (w : WorkingCopy)
      (p : Nat) (older : List Nat),
    (s.bank b).offer = some e → (s.lane e.id.cyl).current = some r → r.cycle = e.id.cycle →
    r.pulses[e.id.pos]? = some q → q.state = .due since limit .bank →
    PhaseKnown s.tracker → (∀ n ∈ s.syncToCycle, n.losesPhase = false) → s.now + dt ≤ limit →
    s.tracker.copy = some w → 0 < w.teeth → w.teeth ≤ 5760 → s.tracker.window = p :: older → 0 < p →
    let now := s.now + dt
    let c := e.id.cyl
    let l := s.lane c
    let sp := 5760 / w.teeth
    let d := q.merged.pulse.duration
    let angle : Int := ((s.tracker.engineAngle now : Int) - r.armPos) % 11520 - r.advance
    let bound : Int := (s.plan.cylinder.get c).val.endLimit
    let fits := angle + (d * sp / p : Nat) ≤ bound
    let cut := if angle < bound then (bound - angle).toNat * p / sp else 0
    let granted := fun (duration : Nat) (clipped : Bool) =>
      { s with now := now, lanes := s.lanes.set c { l with
          current := some { r with pulses := r.pulses.set e.id.pos { q with
            merged := { q.merged with pulse := { q.merged.pulse with duration := duration } }
            state := .energized now
            clipped := q.clipped || clipped
            lateness := now - since } }
          injector := .driving
          outbox := l.outbox ++ [.accept b e.id q.merged.pulse.profile duration] } }
    (fits → exec (.grantOffer dt b) s = .next (granted d false)) ∧
    (¬fits → s.plan.timing.val.minWidth ≤ cut → ∃ t, exec (.grantOffer dt b) s = .next t ∧
      t = { granted cut true with ports := t.ports } ∧
      Raised s t (fun x f => decide (x = q.merged.port ∧ f = .pulseClipped))) ∧
    (¬fits → cut < s.plan.timing.val.minWidth → ∃ t, exec (.grantOffer dt b) s = .next t ∧
      t = { s with now := now, ports := t.ports, lanes := s.lanes.set c (
        ({ l with
          current := some { r with pulses := r.pulses.set e.id.pos { q with state := .dropped .endLimit } }
          outbox := l.outbox ++ [.refuse b e.id] } : Lane).closeCurrent.handOver (s.plan.cylinder.get c).val.bank c
          s.nextTurn) } ∧
      Raised s t (fun x f => decide (x = q.merged.port ∧ f = .pulseDropped)))

/-- CYCLE_DRIVE_END (R92, R95, R98): the injector is RELEASING, and the driven pulse, if an open record still holds it
ENERGIZED, gets DONE, CUT or FAULTED from the report, its energized time and the report's EARLY_PEAK; a record closes if nothing
of it is left open; CUT sets PULSE_CUT on the port of origin. CYCLE_RELEASE_COMPLETE starts the dwell of an injector that is
RELEASING, and finds one that a service pulse has made DRIVING unchanged (R92, R176). (That the dwell end time counts from the
release completion and the energized time to the drive end, each at the moment that its report carries and not at its taking, is
the model's reading, log 15.) -/
def Obligations.DriveEndAndReleaseReachTheLane : Prop :=
  (∀ (dt : Nat) (b : Bank) (s : State) (id : PulseId) (cause : Cause) (early : Bool) (started ended : Nat)
      (more : List CycleReport), (s.mailOf b).toCycle = .driveEnd (.scheduled id) cause early started ended :: more →
    let l := s.lane id.cyl
    let outcome := match cause with | .time => PulseState.done | .cut => .cut | .fault k => .faulted k
    let ends := fun (r : Record) (q : ArmedPulse) (granted : Nat) => { r with pulses := r.pulses.set id.pos { q with
      state := outcome, energized := ended - granted, earlyPeak := q.earlyPeak || early } }
    let left := fun l : Lane => { s with
      now := s.now + dt, mail := s.mail.set b { s.mailOf b with toCycle := more }, lanes := s.lanes.set id.cyl l }
    (∀ r q granted, l.current = some r → r.cycle = id.cycle → r.pulses[id.pos]? = some q → q.state = .energized granted →
      (∀ x u, l.superseded = some x → x.cycle = id.cycle → x.pulses[id.pos]? = some u → u.state.drives = false) →
      ∃ t, exec (.cycleDriveEnd dt b) s = .next t ∧
        t = { left ({ l with injector := .releasing, current := some (ends r q granted) } : Lane).closeSuperseded.closeCurrent with
          ports := t.ports } ∧
        Raised s t (fun x f => decide (cause = .cut ∧ x = q.merged.port ∧ f = .pulseCut))) ∧
    (∀ r q granted, l.superseded = some r → r.cycle = id.cycle → r.pulses[id.pos]? = some q → q.state = .energized granted →
      (∀ x u, l.current = some x → x.cycle = id.cycle → x.pulses[id.pos]? = some u → u.state.drives = false) →
      ∃ t, exec (.cycleDriveEnd dt b) s = .next t ∧
        t = { left ({ l with injector := .releasing, superseded := some (ends r q granted) } : Lane).closeSuperseded.closeCurrent
          with ports := t.ports } ∧
        Raised s t (fun x f => decide (cause = .cut ∧ x = q.merged.port ∧ f = .pulseCut))) ∧
    (l.drivenPulse id = none → exec (.cycleDriveEnd dt b) s = .next (left { l with injector := .releasing }))) ∧
  (∀ (dt : Nat) (b : Bank) (s : State) (id : PulseId) (fault : Option FaultKind) (moment : Nat) (more : List CycleReport),
    (s.mailOf b).toCycle = .release (.scheduled id) fault moment :: more →
    exec (.cycleReleaseComplete dt b) s = .next { s with
      now := s.now + dt
      mail := s.mail.set b { s.mailOf b with toCycle := more }
      lanes := s.lanes.set id.cyl (if (s.lane id.cyl).injector = .releasing then
        { s.lane id.cyl with injector := .dwell (moment + s.plan.timing.val.minDwell) } else s.lane id.cyl) }) ∧
  (∀ (l : Lane) (r : Record), l.current = some r →
    l.closeCurrent = if r.Open then l else { l with current := none, last := some r }) ∧
  (∀ (l : Lane) (r : Record), l.superseded = some r →
    l.closeSuperseded = if r.Open then l else { l with superseded := none, last := some r })

/-- Takings of a sync change (R25, R42, R96, R97). SYNC_CHANGE of one that loses phase drops every PENDING and DUE pulse of
every current record, as STOP where the new state is STOPPED and as SYNC_LOSS otherwise; one that keeps phase drops nothing.
SYNC_CHANGE_TABLE_ENGINE of one that leaves STOPPED clears both votes, and another clears none. ISOLATION_EVENT drops the
waiting pulses of its cylinder alone. Dropped pulses set PULSE_DROPPED on their ports of origin. -/
def Obligations.SyncChangesAndIsolationsTaken : Prop :=
  (∀ (dt : Nat) (s : State) (n : SyncNotice) (rest : List SyncNotice), s.syncToCycle = n :: rest →
    (n.losesPhase = false → exec (.syncChange dt) s = .next { s with now := s.now + dt, syncToCycle := rest }) ∧
    (n.losesPhase = true → ∃ t on, exec (.syncChange dt) s = .next t ∧ Raised s t on ∧
      t = { s with now := s.now + dt, syncToCycle := rest, lanes := t.lanes, ports := t.ports } ∧
      (∀ c, DropsWaiting (s.lane c) (t.lane c) (s.plan.bankOf c) c (if n.new = .stopped then .stop else .syncLoss)
        ((s.lane c).arming.map fun a =>
          { a with loss := a.loss.or (some (if n.new = .stopped then .stop else .syncLoss)) })) ∧
      (∀ q f, on q f = true ↔ f = .pulseDropped ∧ ∃ c r u, (s.lane c).current = some r ∧ u ∈ r.pulses ∧
        u.state.waits = true ∧ u.merged.port = q))) ∧
  (∀ (dt : Nat) (s : State) (n : SyncNotice) (rest : List SyncNotice), s.syncToTable = n :: rest →
    exec (.syncChangeTableEngine dt) s = .next { s with
      now := s.now + dt
      syncToTable := rest
      plan := if n.old = .stopped then { s.plan with votes := ⟨false, false⟩ } else s.plan }) ∧
  (∀ (dt : Nat) (b : Bank) (s : State) (c : Cyl) (more : List CycleReport),
    (s.mailOf b).toCycle = .isolation c :: more → ∃ t on, exec (.isolationEvent dt b) s = .next t ∧ Raised s t on ∧
      t = { s with now := s.now + dt, mail := s.mail.set b { s.mailOf b with toCycle := more },
                   lanes := s.lanes.set c (t.lane c), ports := t.ports } ∧
      DropsWaiting (s.lane c) (t.lane c) (s.plan.bankOf c) c .isolated (s.lane c).arming ∧
      (∀ q f, on q f = true ↔ f = .pulseDropped ∧ ∃ r u, (s.lane c).current = some r ∧ u ∈ r.pulses ∧
        u.state.waits = true ∧ u.merged.port = q))

/-- Every step keeps the lane's law (R83, R85, R91, R99): a lane holds at most two records, the superseded one holds no PENDING
or DUE pulse, and a record that is present has a pulse without an outcome. -/
def Obligations.EveryStepKeepsLaneLaw : Prop :=
  ∀ (s t : State), (∀ c, LaneLaw (s.lane c)) → step s = .next t → ∀ c, LaneLaw (t.lane c)

/-! ## Banks (spec/06) -/

/-- The wait queue (R107, R108, R109, R111, R112, R113, R114). QUEUE_ENTRY places an entry behind those of higher class rank, of
equal rank and earlier due time, and of equal rank and due time that joined before; an IDLE bank with no outstanding offer
offers itself to the head; and an entry two ranks above the scheduled holder of a HELD bank starts a stopped preempt timer.
QUEUE_REMOVAL and OFFER_REFUSAL take an entry out; an offer to it ends and an IDLE bank goes on to its next head; and a preempt
timer it started passes to the first entry that still qualifies, with its expiry unchanged, or stops. Of entries with equal due
time the one handed over first joins first, and the others wait for it (that this is judged by equal due times, over all lanes, is
the model's reading, log 14, and so is that an entry joining between the cut of the holder and its drive end finds the bank HELD,
log 30). -/
def Obligations.WaitQueueKeepsItsOrder : Prop :=
  (∀ (dt : Nat) (c : Cyl) (s : State) (b : Bank) (e : QueueEntry) (turn : Nat) (more : List BankMessage),
    (s.lane c).outbox = .entry b e turn :: more → ¬JoinsFirst s b e.due turn →
    exec (.queueEntry dt c) s = .next { s with now := s.now + dt }) ∧
  (∀ (dt : Nat) (c : Cyl) (s : State) (b : Bank) (e : QueueEntry) (turn : Nat) (more : List BankMessage),
    (s.lane c).outbox = .entry b e turn :: more → JoinsFirst s b e.due turn → QueueOrdered (s.bank b).queue →
    ∃ before after, (s.bank b).queue = before ++ after ∧
      (∀ x ∈ before, e.rank < x.rank ∨ (x.rank = e.rank ∧ x.due ≤ e.due)) ∧
      (∀ x ∈ after, x.rank < e.rank ∨ (x.rank = e.rank ∧ e.due < x.due)) ∧
      exec (.queueEntry dt c) s = .next { s with
        now := s.now + dt
        lanes := s.lanes.set c { s.lane c with outbox := more }
        banks := s.banks.set b { s.bank b with
          queue := before ++ e :: after
          offer := if (s.bank b).state = .idle ∧ (s.bank b).offer = none then (before ++ e :: after).head? else (s.bank b).offer
          preempt := if (s.bank b).preempt = none ∧ QualifiesAgainst (s.bank b) e then
            some ⟨s.now + dt + (s.plan.bank.get b).val.preemptDelay, e⟩ else (s.bank b).preempt } }) ∧
  (∀ (dt : Nat) (c : Cyl) (s : State) (b : Bank) (id : PulseId) (more : List BankMessage),
    (s.lane c).outbox = .removal b id :: more →
    let queue := (s.bank b).queue.filter fun x => decide (x.id ≠ id)
    let offer := (s.bank b).offer.filter fun x => decide (x.id ≠ id)
    exec (.queueRemoval dt c) s = .next { s with
      now := s.now + dt
      lanes := s.lanes.set c { s.lane c with outbox := more }
      banks := s.banks.set b { s.bank b with
        queue := queue
        offer := if (s.bank b).state = .idle ∧ offer = none then queue.head? else offer
        preempt := match (s.bank b).preempt with
          | some t => if t.starter.id = id then
              (queue.find? fun x => decide (QualifiesAgainst (s.bank b) x)).map fun x => { t with starter := x }
            else some t
          | none => none } }) ∧
  (∀ (dt : Nat) (c : Cyl) (s : State) (b : Bank) (id : PulseId) (more : List BankMessage),
    (s.lane c).outbox = .refuse b id :: more →
    let queue := (s.bank b).queue.filter fun x => decide (x.id ≠ id)
    exec (.offerRefusal dt c) s = .next { s with
      now := s.now + dt
      lanes := s.lanes.set c { s.lane c with outbox := more }
      banks := s.banks.set b { s.bank b with
        queue := queue, offer := if (s.bank b).state = .idle then queue.head? else none } })

/-- OFFER_ACCEPT of the pulse that an IDLE bank offers itself to (R103, R110, R113, R124, R125): the entry leaves the queue, the
bank is HELD by the pulse with its recharge WAITING, the first entry left that qualifies starts the preempt timer, and the drive
starts: IREF, gates, timers and slot as R125 gives, with the profile read from the plan. A TRIP, or else a PEAK, that is
asserted already as BOOST is entered is taken at once, as the TRIP or PEAK step takes it. An acceptance the bank does not offer
starts nothing (log 19). -/
def Obligations.OfferAcceptStartsTheDrive : Prop :=
  ∀ (dt : Nat) (c : Cyl) (x : Sense) (s : State) (b : Bank) (id : PulseId) (profile : ProfileIx) (duration : Nat)
      (more : List BankMessage),
    (s.lane c).outbox = .accept b id profile duration :: more →
    let now := s.now + dt
    let taken := { s with now := now, lanes := s.lanes.set c { s.lane c with outbox := more } }
    let queue := (s.bank b).queue.filter fun y => decide (y.id ≠ id)
    let started := StartsDrive { taken with banks := s.banks.set b {
        state := .held
        holder := some (.scheduled id)
        recharge := .waiting
        queue := queue
        offer := none
        preempt := (queue.find? fun y => decide (kindRank id.kind + 2 ≤ y.rank)).map fun y =>
          ⟨now + (s.plan.bank.get b).val.preemptDelay, y⟩ } }
      b x id.cyl profile duration (.scheduled id)
    (∀ e, (s.bank b).state = .idle → (s.bank b).preempt = none → (s.bank b).offer = some e → e.id = id →
      exec (.offerAccept dt c x) s =
        if x.tr then exec (.trip 0 b x) started else if x.pk then exec (.peak 0 b x) started else .next started) ∧
    ((s.bank b).state ≠ .idle ∨ (∀ e, (s.bank b).offer = some e → e.id ≠ id) →
      exec (.offerAccept dt c x) s = .next taken)

/-- What the arbiter does with the slot's reports and the recharge (R34, R103, R104, R105, R106, R109). The boost end starts the
recharge, whose end time is the moment of the boost end plus the recharge time, or makes it DONE where that time is 0. The drive
end makes a HELD bank RELEASING with the preempt timer stopped. The release completion frees the bank: IDLE, with an offer to
the head of its queue, where the recharge is DONE, and RECOVERING otherwise. RECHARGE_EXPIRY at the end time makes the recharge
DONE, and a RECOVERING bank IDLE with an offer. -/
def Obligations.BankFollowsDriveAndRecharge : Prop :=
  ∀ (dt : Nat) (b : Bank) (s : State) (more : List BankReport),
    let r := s.bank b
    let now := s.now + dt
    let popped := { s with now := now, mail := s.mail.set b { s.mailOf b with toBank := more } }
    let time := (s.plan.bank.get b).val.recharge
    let offered := if r.offer = none then r.queue.head? else r.offer
    (∀ moment, (s.mailOf b).toBank = .boostEnd moment :: more → exec (.boostEnd dt b) s = .next { popped with
      banks := s.banks.set b { r with recharge := if time = 0 then .done else .running (moment + time) } }) ∧
    ((s.mailOf b).toBank = .driveEnd :: more → r.state = .held → exec (.bankDriveEnd dt b) s = .next { popped with
      banks := s.banks.set b { r with state := .releasing, preempt := none } }) ∧
    ((s.mailOf b).toBank = .releaseComplete :: more → r.state = .releasing → r.recharge = .done →
      exec (.bankReleaseComplete dt b) s = .next { popped with
        banks := s.banks.set b { r with state := .idle, holder := none, offer := offered } }) ∧
    ((s.mailOf b).toBank = .releaseComplete :: more → r.state = .releasing → r.recharge ≠ .done →
      exec (.bankReleaseComplete dt b) s = .next { popped with
        banks := s.banks.set b { r with state := .recovering, holder := none } }) ∧
    (∀ ends, r.recharge = .running ends → ends ≤ now → exec (.rechargeExpiry dt b) s = .next { s with
      now := now
      banks := s.banks.set b (if r.state = .recovering then { r with recharge := .done, state := .idle, offer := offered }
        else { r with recharge := .done }) }) ∧
    (∀ ends, r.recharge = .running ends → now < ends → exec (.rechargeExpiry dt b) s = .next { s with now := now })

/-- PREEMPT_EXPIRY at the timer's expiry time stops the timer and hands the driver sequencer a cut of the holder of a HELD bank;
before it nothing but time changes (R115). BANK_CUT hands over a cut only where the bank is HELD by the holder it names (R116).
(That the bank is HELD until its drive end is taken, so that a second cut taken before is handed over too, is the model's reading,
log 30.) -/
def Obligations.CutsReachOnlyTheNamedHolder : Prop :=
  (∀ (dt : Nat) (b : Bank) (s : State) (t : PreemptTimer), (s.bank b).preempt = some t →
    let stopped := { s with now := s.now + dt, banks := s.banks.set b { s.bank b with preempt := none } }
    (s.now + dt < t.expiry → exec (.preemptExpiry dt b) s = .next { s with now := s.now + dt }) ∧
    (t.expiry ≤ s.now + dt → ∀ h, (s.bank b).state = .held → (s.bank b).holder = some h →
      exec (.preemptExpiry dt b) s = .next { stopped with
        mail := s.mail.set b { s.mailOf b with cuts := (s.mailOf b).cuts ++ [h] } }) ∧
    (t.expiry ≤ s.now + dt → (s.bank b).state ≠ .held → exec (.preemptExpiry dt b) s = .next stopped)) ∧
  (∀ (dt : Nat) (c : Cyl) (s : State) (b : Bank) (h : Holder) (more : List BankMessage),
    (s.lane c).outbox = .cut b h :: more →
    let taken := { s with now := s.now + dt, lanes := s.lanes.set c { s.lane c with outbox := more } }
    exec (.bankCut dt c) s = .next (if (s.bank b).state = .held ∧ (s.bank b).holder = some h then { taken with
        mail := s.mail.set b { s.mailOf b with cuts := (s.mailOf b).cuts ++ [h] } } else taken))

/-- Every step keeps the law of every bank (R102, R107, R109, R113): a holder is present exactly in HELD and RELEASING, the
preempt timer runs only in HELD, the offer is an entry of the queue, and the queue is in order. -/
def Obligations.EveryStepKeepsBankLaw : Prop :=
  ∀ (s t : State), (∀ b, BankLaw (s.bank b)) → step s = .next t → ∀ b, BankLaw (t.bank b)

/-! ## Drives (spec/07) -/

/-- PEAK in BOOST (R103, R126, R128, R129, R136, R139): the boost gate is off, the peak-limit timer is stopped, the peak level
is the hold current, the boost end is reported to the bank arbiter, and the slot is in HOLD with BATT_G off while PKb is
asserted; FLb asserted already starts the hold-loss timer. Before the minimum peak time it is an EARLY_PEAK fault as well, and
the drive goes on. -/
def Obligations.PeakEndsTheBoostPhase : Prop :=
  ∀ (dt : Nat) (b : Bank) (x : Sense) (s : State) (d : Drive), (s.slot b).phase = .boost → (s.slot b).drive = some d →
    let now := s.now + dt
    let y := s.slot b
    let early := now - y.start < d.profile.minPeak
    ∃ t, exec (.peak dt b x) s = .next t ∧
      t = { s with
        now := now
        sense := s.sense.set b { x with pk := true }
        slots := s.slots.set b { y with
          phase := .hold, peakLimitTimer := none, boostGate := false, battGate := false
          iref := { y.iref with peak := d.profile.hold }
          holdLossTimer := if x.fl then some (now + d.profile.holdLoss) else none
          earlyPeak := if early then true else y.earlyPeak
          faults := if early then FaultKind.earlyPeak :: y.faults.filter (fun k => decide (k ≠ .earlyPeak)) else y.faults }
        mail := s.mail.set b { s.mailOf b with toBank := (s.mailOf b).toBank ++ [.boostEnd now] }
        faults := if early then s.faults.set d.cyl (FaultWritten s d .earlyPeak) else s.faults
        ports := t.ports } ∧
      Raised s t (if early then flagBoth .driverFault else noFlags)

/-- The comparators in HOLD, and outside it (R128, R129, R130): BATT_G is on while PKb is released; FLb asserted starts the
hold-loss timer unless it runs, and released stops it; outside HOLD these change no slot. TRb asserted in RELEASE is recorded as
an OVERCURRENT fault and the release goes on, and in OFF it is not acted on. -/
def Obligations.HoldPhaseFollowsTheComparators : Prop :=
  ∀ (dt : Nat) (b : Bank) (s : State),
    let now := s.now + dt
    let y := s.slot b
    let seen := fun x : Sense => { s with now := now, sense := s.sense.set b x }
    (∀ d, y.phase = .hold → y.drive = some d →
      (∀ pk, exec (.holdChop dt b pk) s = .next { seen { s.senseOf b with pk := pk } with
        slots := s.slots.set b { y with battGate := !pk } }) ∧
      exec (.floorEntry dt b) s = .next { seen { s.senseOf b with fl := true } with
        slots := s.slots.set b { y with
          holdLossTimer := if y.holdLossTimer = none then some (now + d.profile.holdLoss) else y.holdLossTimer } } ∧
      exec (.floorExit dt b) s = .next { seen { s.senseOf b with fl := false } with
        slots := s.slots.set b { y with holdLossTimer := none } }) ∧
    (y.phase ≠ .hold →
      (∀ pk, exec (.holdChop dt b pk) s = .next (seen { s.senseOf b with pk := pk })) ∧
      exec (.floorEntry dt b) s = .next (seen { s.senseOf b with fl := true }) ∧
      exec (.floorExit dt b) s = .next (seen { s.senseOf b with fl := false })) ∧
    (∀ d x, y.phase = .release → y.drive = some d → ∃ t, exec (.trip dt b x) s = .next t ∧
      t = { seen { x with tr := true } with
        slots := s.slots.set b { y with
          faults := FaultKind.overcurrent :: y.faults.filter (fun k => decide (k ≠ .overcurrent)) }
        faults := s.faults.set d.cyl (FaultWritten s d .overcurrent)
        ports := t.ports } ∧
      Raised s t (flagBoth .driverFault)) ∧
    (∀ x, y.phase = .off → exec (.trip dt b x) s = .next (seen { x with tr := true }))

/-- A drive ends at the first of these taken in its phase (R103, R127, R129, R130, R131, R132, R133, R136): the duration expiry
with cause TIME and a cut with cause CUT, in BOOST or HOLD; the peak-limit expiry in BOOST, the hold-loss expiry in HOLD and a
TRIP in BOOST or HOLD with cause FAULT, recorded with DRIVER_FAULT. All gates of the drive go off, its timers stop, the
release-limit timer starts, the slot is in RELEASE with the peak level at the hold current, and the drive end is reported to
bank arbiter and cycle unit, after a boost end where the drive ended in BOOST. With ZRb asserted already the release completes
at once, as the ZERO step completes it. (That a cut acts only on the drive it names is the model's reading, log 13.) -/
def Obligations.DriveEndsWithItsCause : Prop :=
  ∀ (dt : Nat) (b : Bank) (x : Sense) (s : State) (d : Drive) (i : Instr) (cause : Cause),
    (s.slot b).drive = some d → EndsDrive dt b x s d i cause →
    let now := s.now + dt
    let y := s.slot b
    let fault : Option FaultKind := match cause with | .fault k => some k.kind | .time => none | .cut => none
    ∃ u, u = { s with
        now := now
        sense := s.sense.set b x
        slots := s.slots.set b { y with
          phase := .release, cause := some cause, durationTimer := none, peakLimitTimer := none, holdLossTimer := none
          releaseTimer := some (now + d.profile.releaseLimit), boostGate := false, battGate := false
          iref := { y.iref with peak := d.profile.hold }
          faults := match fault with | some k => k :: y.faults.filter (fun j => decide (j ≠ k)) | none => y.faults }
        lowGates := s.lowGates.set d.cyl false
        mail := s.mail.set b {
          toBank := (s.mailOf b).toBank ++ (if y.phase = .boost then [.boostEnd now] else []) ++ [.driveEnd]
          toCycle := (s.mailOf b).toCycle ++ [.driveEnd d.holder cause y.earlyPeak y.start now]
          cuts := if i = .driverCut dt b x then (s.mailOf b).cuts.tail else (s.mailOf b).cuts }
        faults := match fault with | some k => s.faults.set d.cyl (FaultWritten s d k) | none => s.faults
        ports := u.ports } ∧
      Raised s u (if fault = none then noFlags else flagBoth .driverFault) ∧
      exec i s = if x.zr then exec (.zero 0 b) u else .next u

/-- The release of a drive is complete at ZERO, or at the release-limit expiry with a RELEASE_SLOW fault and the gates of the
bank driven off (R134, R135, R136, R137, R138): IREF is at zero, the completion is reported to bank arbiter and cycle unit, and
the slot is OFF. A scheduled drive updates the consecutive count of its cylinder, and a count at or above the threshold isolates
a cylinder that is not isolated, with CYL_ISOLATED on both ports and the isolation event after the completion; a service drive
leaves the count. -/
def Obligations.ReleaseCompletesTheDrive : Prop :=
  ∀ (dt : Nat) (b : Bank) (s : State) (d : Drive) (i : Instr), (s.slot b).phase = .release → (s.slot b).drive = some d →
    i = .zero dt b ∨ (i = .releaseLimitExpiry dt b ∧ ∃ e, (s.slot b).releaseTimer = some e ∧ e ≤ s.now + dt) →
    let y := s.slot b
    let slow := i = .releaseLimitExpiry dt b
    let faults := if slow then FaultKind.releaseSlow :: y.faults.filter (fun k => decide (k ≠ .releaseSlow)) else y.faults
    let record := if slow then FaultWritten s d .releaseSlow else s.faultsOf d.cyl
    let count := if faults = [] then 0 else min (record.count + 1) 15
    let isolates := record.isolated = false ∧ s.plan.limits.val.isolation ≤ count
    let scheduled := ∃ id, d.holder = .scheduled id
    ∃ t on, exec i s = .next t ∧ Raised s t on ∧
      t = { s with
        now := s.now + dt
        sense := if slow then s.sense else s.sense.set b { s.senseOf b with zr := true }
        slots := s.slots.set b { y with
          phase := .off, drive := none, cause := none, faults := [], earlyPeak := false, releaseTimer := none, iref := ⟨0, 0, 0⟩
          boostGate := if slow then false else y.boostGate, battGate := if slow then false else y.battGate }
        mail := s.mail.set b (t.mailOf b)
        faults := s.faults.set d.cyl (t.faultsOf d.cyl)
        lowGates := t.lowGates
        ports := t.ports } ∧
      (t.mailOf b).toBank = (s.mailOf b).toBank ++ [.releaseComplete] ∧ (t.mailOf b).cuts = (s.mailOf b).cuts ∧
      (¬slow → t.lowGates = s.lowGates) ∧
      (slow → ∀ c, t.lowGates.get c = if c.num ≤ s.plan.count ∧ s.plan.bankOf c = b then false else s.lowGates.get c) ∧
      (scheduled → isolates → t.faultsOf d.cyl = { record with count := count, isolated := true } ∧
        (t.mailOf b).toCycle = (s.mailOf b).toCycle ++ [.release d.holder faults.head? (s.now + dt), .isolation d.cyl]) ∧
      (scheduled → ¬isolates → t.faultsOf d.cyl = { record with count := count } ∧
        (t.mailOf b).toCycle = (s.mailOf b).toCycle ++ [.release d.holder faults.head? (s.now + dt)]) ∧
      (¬scheduled → t.faultsOf d.cyl = record ∧
        (t.mailOf b).toCycle = (s.mailOf b).toCycle ++ [.release d.holder faults.head? (s.now + dt)]) ∧
      (∀ p f, on p f = true ↔ (f = .driverFault ∧ slow) ∨ (f = .cylIsolated ∧ scheduled ∧ isolates))

/-- Every step keeps the drivers' law (R103, R104, R105, R123, R125, R128, R133): banks and slots stay in step through the
reports between them, and the gates are on only in the phases that turn them on. -/
def Obligations.EveryStepKeepsDriverLaw : Prop :=
  ∀ (s t : State), DriverLaw s → step s = .next t → DriverLaw t

/-! ## Ports (spec/08, spec/09) -/

/-- TRANSACTION_BEGIN where CS_N was high (R27, R143, R158, R166): the frame is fixed: the summary byte and the engine angle as
they stand, the head of the reply queue or the idle reply with flags, mask and depth of the command queue, and the check (R145)
over the eleven bytes. Nothing else changes. A fall while a transaction is active is no event (log 17). The check is the CRC of
R145 bit by bit: the register starts at 0xFF, takes each byte by exclusive OR, and is then shifted eight times, each time
combined with 0x07 where the bit shifted out was 1. -/
def Obligations.TransactionBeginFixesTheFrame : Prop :=
  crc [] = 0xFF#8 ∧
  (∀ (bytes : List Byte) (b : Byte), ∃ r : Nat → Byte, r 0 = crc bytes ^^^ b ∧ crc (bytes ++ [b]) = r 8 ∧
    ∀ k i, k < 8 → i < 8 → (r (k + 1)).getLsbD i =
      ((decide (0 < i) && (r k).getLsbD (i - 1)) ^^ ((r k).getLsbD 7 && decide (i < 3)))) ∧
  ∀ (dt : Nat) (p : Port) (s : State),
    let q := s.port p
    let now := s.now + dt
    let reply := match q.replies with
      | r :: _ => r
      | [] => ⟨0x00#8, 0, .ok, packData [(16, q.flags.toNat), (16, q.mask.toNat), (8, q.commands.length)]⟩
    let angle := if s.tracker.sync = .fullSync ∨ (s.tracker.sync = .coasting ∧ s.tracker.phaseHeld = true) then
      s.tracker.engineAngle now else 0xFFFF
    let summary := packBits [(3, syncCode s.tracker.sync),
      (1, bit (decide (s.tracker.sync = .coasting ∧ s.tracker.phaseHeld = true))), (1, bit q.attn), (1, bit q.hold),
      (1, bit s.plan.closed)]
    let byte := fun n : Nat => BitVec.ofNat 8 n
    let body := [byte summary, byte angle, byte (angle / 256), reply.code, byte (reply.tag.toNat + 16 * resultCode reply.result),
      byte reply.data.toNat, byte (reply.data.toNat / 256), byte (reply.data.toNat / 256 ^ 2),
      byte (reply.data.toNat / 256 ^ 3), byte (reply.data.toNat / 256 ^ 4), byte (reply.data.toNat / 256 ^ 5)]
    ((q.txn = .idle ∨ q.txn = .complete) → exec (.transactionBegin dt p) s = .next { s with
      now := now
      ports := s.ports.set p { q with txn := .active (wireOf (body ++ [crc body])) (decide (q.replies ≠ [])) } }) ∧
    (∀ f k, q.txn = .active f k → exec (.transactionBegin dt p) s = .next { s with now := now })

/-- A completed transaction (R42, R146, R150, R155): the reply that was sent leaves its queue, then the frame is judged. A bad
one is discarded with BAD_FRAME; NONE does nothing more; PORT_RESET acts at once on its own port and its vote; any other is
appended to the command queue, with HOLD_N asserted at or above the halt level, or discarded with QUEUE_OVERFLOW where the
queue holds 16. The rows NONE and PORT_RESET are completions of frames with their codes. (That a PORT_RESET which finds 16
replies, as one under the idle reply can, answers 16 is the model's choice, log 28, and that it clears the flags a request of its
port set just before, which R80 lets stand, is the model's reading, log 32.) -/
def Obligations.CompletedFrameIsJudged : Prop :=
  ∀ (dt : Nat) (p : Port) (s : State) (i : Instr) (rx f : Wire) (queued : Bool), (s.port p).txn = .active f queued →
    (i = .transactionComplete dt p rx ∨ (∃ tail, i = .noneFrame dt p tail ∧ rx = 0x00#8 ++ tail) ∨
      (∃ tail, i = .portReset dt p tail ∧ rx = 0x21#8 ++ tail)) →
    let q := { s.port p with replies := if queued then (s.port p).replies.tail else (s.port p).replies, txn := .complete }
    let left := fun q => { s with now := s.now + dt, ports := s.ports.set p q }
    let good := crc ((List.range 11).map fun k => rx.extractLsb' (8 * (11 - k)) 8) = rx.extractLsb' 0 8
    let code := rx.extractLsb' 88 8
    (¬good → ∃ t, exec i s = .next t ∧ t = { left q with ports := t.ports } ∧
      Raised (left q) t (fun x f => decide (x = p ∧ f = .badFrame))) ∧
    (good → code = 0x00#8 → exec i s = .next (left q)) ∧
    (good → code = 0x21#8 → exec i s = .next { left { q with
        commands := []
        replies := [⟨0x21#8, rx.extractLsb' 80 4, .ok, packData [(8, q.commands.length), (8, q.replies.length)]⟩]
        flags := 0, mask := 0xFFFF#16, halt := 12, resume := 4, hold := false, attn := false
        cursor := ⟨.stage, .c1, 0, false⟩ } with
      plan := { s.plan with votes := s.plan.votes.set p false } }) ∧
    (good → code ≠ 0x00#8 → code ≠ 0x21#8 → q.commands.length < 16 →
      exec i s = .next (left { q with
        commands := q.commands ++ [requestOf rx]
        hold := if q.halt ≤ q.commands.length + 1 then true else q.hold })) ∧
    (good → code ≠ 0x00#8 → code ≠ 0x21#8 → 16 ≤ q.commands.length → ∃ t, exec i s = .next t ∧
      t = { left q with ports := t.ports } ∧ Raised (left q) t (fun x f => decide (x = p ∧ f = .queueOverflow)))

/-- A transaction that ends with CS_N rising before it is complete (R147): the bits received are discarded whatever their number
and whatever they hold, no flag is set, and the reply queue is left as it was; the reply that was being sent stays at the head,
and the next transaction sends it again, under a header formed afresh when its CS_N falls. -/
def Obligations.ShortTransactionLosesNoReply : Prop :=
  ∀ (dt : Nat) (p : Port) (bits : List Bool) (s : State) (f : Wire) (queued : Bool), (s.port p).txn = .active f queued →
    let t := { s with now := s.now + dt, ports := s.ports.set p { s.port p with txn := .idle } }
    exec (.shortTransaction dt p bits) s = .next t ∧
    (∀ (later : Nat) (r : Reply) (rest : List Reply), (s.port p).replies = r :: rest →
      ∃ u, exec (.transactionBegin later p) t = .next u ∧ (u.port p).replies = r :: rest ∧
        (u.port p).txn = .active (wireOf ((t.advance later).frameBytes p r)) true)

/-- PORT_SETUP (R150, R152, R165), FLAGS_READ (R163), FLAGS_CLEAR (R164, R165) and a code that names no request (R154).
PORT_SETUP writes levels and mask, and HOLD_N and ATTN_N follow, or is refused with RANGE 1 or 2. FLAGS_READ answers flags, mask
and ATTN_N and changes nothing. FLAGS_CLEAR clears the flags its mask names, ATTN_N follows, and the word before and after is
answered. An unknown code is answered UNKNOWN and has no other effect. (That a PORT_SETUP which fails both checks answers 1 is
the model's reading, log 31.) -/
def Obligations.PortSetupAndFlagRequests : Prop :=
  ∀ (dt : Nat) (s : State) (p : Port) (r : Request) (rest : List Request), s.NextIs p r rest →
    let base := s.taken dt p rest
    let q := base.port p
    let halt := field r.params 0 5
    let resume := field r.params 5 4
    let mask := BitVec.ofNat 16 (field r.params 9 16)
    let hold := if halt ≤ rest.length then true else if rest.length ≤ resume then false else q.hold
    let after := q.flags &&& ~~~(BitVec.ofNat 16 (field r.params 0 16))
    (r.code = 0x20#8 → ¬(2 ≤ halt ∧ halt ≤ 16) → exec (.portSetup dt) s = .next (base.replied p r .range 1)) ∧
    (r.code = 0x20#8 → 2 ≤ halt → halt ≤ 16 → halt ≤ resume → exec (.portSetup dt) s = .next (base.replied p r .range 2)) ∧
    (r.code = 0x20#8 → 2 ≤ halt → halt ≤ 16 → resume < halt → exec (.portSetup dt) s = .next (({ base with
      ports := base.ports.set p { q with
        halt := halt, resume := resume, mask := mask, hold := hold, attn := decide (q.flags &&& mask ≠ 0) } } : State).replied p r .ok
      (packData [(8, halt), (8, resume), (16, mask.toNat), (8, rest.length), (1, bit hold)]))) ∧
    (r.code = 0x28#8 → exec (.flagsRead dt) s = .next (base.replied p r .ok
      (packData [(16, q.flags.toNat), (16, q.mask.toNat), (1, bit q.attn)]))) ∧
    (r.code = 0x29#8 → exec (.flagsClear dt) s = .next (({ base with
      ports := base.ports.set p { q with flags := after, attn := decide (after &&& q.mask ≠ 0) } } : State).replied p r .ok
      (packData [(16, q.flags.toNat), (16, after.toNat)]))) ∧
    (r.code ∉ [0x00#8, 0x01#8, 0x02#8, 0x03#8, 0x04#8, 0x05#8, 0x06#8, 0x07#8, 0x08#8, 0x09#8, 0x0A#8, 0x10#8, 0x11#8, 0x12#8,
      0x13#8, 0x14#8, 0x18#8, 0x19#8, 0x1C#8, 0x1D#8, 0x20#8, 0x21#8, 0x28#8, 0x29#8, 0x2A#8, 0x2B#8, 0x2C#8] →
      exec (.unknownRequest dt) s = .next (base.replied p r .unknown 0))

/-- CURSOR_SET, CURSOR_READ, ANGLE_READ and SERVICE_READ (R158, R160, R167, R168, R173, R180). CURSOR_SET writes the cursor or
is refused with RANGE 1, 2 or 3. CURSOR_READ answers the entry at the cursor, and with step on the cursor moves to the next
index, or to index 0 of the next cylinder, which wraps at the plan's cylinder count, 8 while the engine group is unset.
ANGLE_READ and SERVICE_READ answer the tracker's position and counts and the service outcome record, and change nothing. -/
def Obligations.CursorAndReadRequests : Prop :=
  ∀ (dt : Nat) (s : State) (p : Port) (r : Request) (rest : List Request), s.NextIs p r rest →
    let base := s.taken dt p rest
    let f := field r.params
    let wrap := if s.plan.engine.isSet then s.plan.engine.val.count else 8
    let k := (s.port p).cursor
    let last := viewEntries k.view - 1
    let cursorTo := fun k => { base with ports := base.ports.set p { base.port p with cursor := k } }
    let t := s.tracker
    let held := Synced t
    let v := s.service.record
    (r.code = 0x2A#8 → f 0 3 = 7 → exec (.cursorSet dt) s = .next (base.replied p r .range 1)) ∧
    (r.code = 0x2A#8 → f 0 3 ≠ 7 → (∀ c : Cyl, f 3 4 ≠ c.num) → exec (.cursorSet dt) s = .next (base.replied p r .range 2)) ∧
    (r.code = 0x2A#8 → ∀ (view : View) (c : Cyl), f 0 3 = viewCode view → f 3 4 = c.num →
      exec (.cursorSet dt) s = .next (if f 7 4 < viewEntries view then
        (cursorTo ⟨view, c, f 7 4, decide (f 11 1 = 1)⟩).replied p r .ok
          (packData [(8, f 0 3), (8, c.num), (8, f 7 4), (8, f 11 1), (8, viewEntries view), (8, wrap)])
        else base.replied p r .range 3)) ∧
    (r.code = 0x2B#8 → k.step = false → exec (.cursorRead dt) s = .next (base.replied p r .ok (s.entryAt p k))) ∧
    (r.code = 0x2B#8 → k.step = true → k.index < last →
      exec (.cursorRead dt) s = .next ((cursorTo { k with index := k.index + 1 }).replied p r .ok (s.entryAt p k))) ∧
    (r.code = 0x2B#8 → k.step = true → last ≤ k.index → ∀ c : Cyl,
      c.num = (if k.cyl.num + 1 ≤ min wrap 8 then k.cyl.num + 1 else 1) →
      exec (.cursorRead dt) s = .next ((cursorTo { k with index := 0, cyl := c }).replied p r .ok (s.entryAt p k))) ∧
    (r.code = 0x2C#8 → f 0 1 = 0 → ∃ angle revAngle, exec (.angleRead dt) s = .next (base.replied p r .ok
        (packData [(16, angle), (16, revAngle), (16, t.speed)])) ∧
      (PhaseKnown t → angle = t.engineAngle (s.now + dt)) ∧ (¬PhaseKnown t → angle = 0xFFFF) ∧
      (held → revAngle = t.revAngle (s.now + dt)) ∧ (¬held → revAngle = 0xFFFF)) ∧
    (r.code = 0x2C#8 → f 0 1 = 1 → exec (.angleRead dt) s = .next (base.replied p r .ok
      (packData [(3, syncCode t.sync), (1, bit (decide (t.sync = .coasting) && t.phaseHeld)), (4, 0), (16, t.cycles.toNat),
        (4, t.missedGaps), (4, t.phaseMisses)]))) ∧
    (r.code = 0x1D#8 → exec (.serviceRead dt) s = .next (base.replied p r .ok
      (packData [(4, match v.cyl with | some c => c.num | none => 0), (2, serviceCode v.outcome), (2, 0),
        (3, faultCode v.fault), (5, 0), (16, v.energized)])))

/-- The entries that CURSOR_READ answers (R139, R159, R160, R169, R170, R171): a STAGE slot, the PUB header and positions, the
ACTIVE header and positions, the header, pulse entry and result entry of a record in ARMED and OUTCOME, and the FAULT record,
each packed as its layout gives; an empty slot or position, an ABSENT contribution and an absent record read as all zero. -/
def Obligations.EntriesShowTheTables : Prop :=
  ∀ (s : State) (p : Port) (c : Cyl) (i : Four) (step : Bool),
    let at_ := fun (view : View) (index : Nat) => s.entryAt p ⟨view, c, index, step⟩
    let pulse := fun (u : Pulse) (q : Port) (j : SlotIx) (verdict stamp : Nat) =>
      packData [(3, kindCode u.kind), (1, q.num), (2, j.num), (2, u.profile.num), (14, (u.start % 16384).toNat), (15, u.duration),
        (3, verdict), (8, stamp)]
    let revision := (s.tables.active.get c).revision.toNat
    let entries := (s.tables.active.get c).entries
    let f := s.faultsOf c
    (∀ u, (s.tables.staged p c).get i = some u → at_ .stage i.num = pulse u p i 0 0) ∧
    ((s.tables.staged p c).get i = none → at_ .stage i.num = 0) ∧
    (∀ (q : Port) (view : View), (q = .a ∧ view = .pubA) ∨ (q = .b ∧ view = .pubB) →
      let k := s.tables.contribution q c
      let holds := fun j => bit (k.pulses.get j).isSome
      (k.state = .absent → at_ view 0 = 0 ∧ at_ view (i.num + 1) = 0) ∧
      (k.state ≠ .absent → at_ view 0 = packData [(2, contribCode k.state), (2, 0), (1, holds .i0), (1, holds .i1), (1, holds .i2),
        (1, holds .i3), (8, k.age), (24, 0), (8, revision)]) ∧
      (k.state ≠ .absent → ∀ u, k.pulses.get i = some u →
        at_ view (i.num + 1) = pulse u q i (verdictCode (k.verdicts.get i)) revision) ∧
      (k.pulses.get i = none → at_ view (i.num + 1) = 0)) ∧
    at_ .active 0 = packData [(8, entries.length), (32, 0), (8, revision)] ∧
    (∀ n m, entries[n]? = some m → at_ .active (n + 1) = pulse m.pulse m.port m.slot 0 revision) ∧
    (∀ n, entries.length ≤ n → at_ .active (n + 1) = 0) ∧
    (∀ (view : View) (record : Option Record), (view = .armed ∧ record = (s.lane c).current) ∨
        (view = .outcome ∧ record = (s.lane c).last) →
      (record = none → ∀ n, at_ view n = 0) ∧
      (∀ r, record = some r →
        let stamp := r.cycle.toNat % 256
        at_ view 0 = packData [(16, r.cycle.toNat), (8, r.revision.toNat), (1, bit r.cutOut), (1, bit r.isolated),
          (3, r.pulses.length), (2, 0), (1, 1), (8, 0), (8, stamp)] ∧
        (∀ n u, r.pulses[n]? = some u →
          at_ view (1 + 2 * n) = pulse u.merged.pulse u.merged.port u.merged.slot 0 stamp ∧
          at_ view (2 + 2 * n) = packData [(5, statusCode u.state), (1, bit u.late), (1, bit u.clipped), (1, bit u.earlyPeak), (3, 0),
            (15, u.energized), (11, u.lateness), (3, n), (8, stamp)]) ∧
        (∀ n, r.pulses.length ≤ n → at_ view (1 + 2 * n) = 0 ∧ at_ view (2 + 2 * n) = 0))) ∧
    at_ .fault 0 = packData [(3, faultCode f.lastKind), (3, match f.lastPulse with | some k => kindCode k | none => 0),
      (1, bit f.isolated), (1, 0), (4, f.count), (4, c.num), (16, f.lastCycle.toNat)]

/-- Every step keeps the law of both ports (R150, R153, R155, R165, R167): the queues hold at most 16, the levels are in range,
HOLD_N and ATTN_N stand as depth, levels, flags and mask allow, and the cursor is within its view. -/
def Obligations.EveryStepKeepsPortLaw : Prop :=
  ∀ (s t : State), (∀ p, PortLaw (s.port p)) → step s = .next t → ∀ p, PortLaw (t.port p)

/-! ## Service pulses (spec/10) -/

/-- SERVICE_PULSE (R120, R125, R174, R175, R176): the first of the eight tests that fails refuses it with its result and number;
one that passes all is in progress with phase DRIVING, the outcome record shows its cylinder with outcome none, the injector is
DRIVING, the bank is HELD by the service holder with its recharge WAITING, and the drive starts as a scheduled one does; the
reply shows cylinder and bank. (That an acceptance which is on its way fails the eighth test is the model's reading, log 27, and so
is that entries and an offer whose removals are on their way fail none and stand in the bank, log 29.) -/
def Obligations.ServicePulseStartsOneDrive : Prop :=
  ∀ (dt : Nat) (x : Sense) (s : State) (p : Port) (r : Request) (rest : List Request) (profile : ProfileIx), s.NextIs p r rest →
    r.code = 0x1C#8 → s.plan.count ≤ 8 → profile.num = field r.params 19 2 →
    let n := field r.params 0 4
    let duration := field r.params 4 15
    let passes : Nat → Prop := fun m =>
      if m = 1 then s.service.inProgress = none
      else if m = 2 then s.plan.closed = true
      else if m = 3 then 1 ≤ n ∧ n ≤ s.plan.count
      else if m = 4 then 20 ≤ duration ∧ duration ≤ 20000
      else if m = 5 then (s.plan.profile.get profile).isSet = true
      else if m = 6 then s.tracker.sync = .stopped
      else if m = 7 then ∀ c, NoOpenRecord (s.lane c)
      else ∀ c : Cyl, c.num = n → BankAtRest s (s.plan.cylinder.get c).val.bank
    let refusal : Nat → Result × Nat := fun m =>
      if m = 1 then (.busy, 0) else if m = 2 then (.state, 1) else if m = 3 then (.range, 1) else if m = 4 then (.range, 2)
      else if m = 5 then (.range, 3) else if m = 6 then (.state, 2) else if m = 7 then (.state, 3) else (.state, 4)
    (∀ m, 1 ≤ m → m ≤ 8 → (∀ j, 1 ≤ j → j < m → passes j) → ¬passes m → exec (.servicePulse dt x) s =
      .next ((s.taken dt p rest).replied p r (refusal m).1 (BitVec.ofNat 48 (refusal m).2))) ∧
    ((∀ m, 1 ≤ m → m ≤ 8 → passes m) → ∃ c : Cyl, c.num = n ∧
      let b := (s.plan.cylinder.get c).val.bank
      let started := (StartsDrive { s.taken dt p rest with
          service := { inProgress := some ⟨.driving, p, c, profile, duration, none⟩, record := ⟨some c, .none, none, 0⟩ }
          lanes := s.lanes.set c { s.lane c with injector := .driving }
          banks := s.banks.set b { s.bank b with state := .held, holder := some (.service c), recharge := .waiting } }
        b x c profile duration (.service c)).replied p r .ok (packData [(8, c.num), (8, b.num)])
      exec (.servicePulse dt x) s =
        if x.tr then exec (.trip 0 b x) started else if x.pk then exec (.peak 0 b x) started else .next started)

/-- SERVICE_DRIVE_END makes the phase RELEASING, records cause and energized time, and the injector is RELEASING (R92, R177).
SERVICE_RELEASE_COMPLETE writes the outcome record from the cause, with the fault kind that ended the drive or else the last
found, sets SERVICE_DONE on the requesting port, ends the service pulse, and starts the cylinder's dwell (R92, R179). (That the
dwell end time counts from the release completion and the energized time to the drive end, each at the moment that its report
carries and not at its taking, is the model's reading, log 15.) -/
def Obligations.ServicePulseEndsWithItsOutcome : Prop :=
  (∀ (dt : Nat) (b : Bank) (s : State) (c : Cyl) (cause : Cause) (early : Bool) (started ended : Nat) (more : List CycleReport)
      (v : ServicePulse),
    (s.mailOf b).toCycle = .driveEnd (.service c) cause early started ended :: more → s.service.inProgress = some v →
    exec (.serviceDriveEnd dt b) s = .next { s with
      now := s.now + dt
      mail := s.mail.set b { s.mailOf b with toCycle := more }
      service := { s.service with inProgress := some { v with phase := .releasing, result := some ⟨cause, ended - started⟩ } }
      lanes := s.lanes.set c { s.lane c with injector := .releasing } }) ∧
  (∀ (dt : Nat) (b : Bank) (s : State) (c : Cyl) (fault : Option FaultKind) (moment : Nat) (more : List CycleReport)
      (v : ServicePulse) (res : ServiceResult),
    (s.mailOf b).toCycle = .release (.service c) fault moment :: more → s.service.inProgress = some v → v.result = some res →
    (s.lane c).injector = .releasing →
    ∃ t, exec (.serviceReleaseComplete dt b) s = .next t ∧
      t = { s with
        now := s.now + dt
        mail := s.mail.set b { s.mailOf b with toCycle := more }
        lanes := s.lanes.set c { s.lane c with injector := .dwell (moment + s.plan.timing.val.minDwell) }
        service := { inProgress := none, record := {
          cyl := some v.cyl
          outcome := match res.cause with | .time => .done | .cut => .cut | .fault _ => .faulted
          fault := match res.cause with | .fault k => some k.kind | .time => fault | .cut => fault
          energized := res.energized } }
        ports := t.ports } ∧
      Raised s t (fun q f => decide (q = v.port ∧ f = .serviceDone)))

/-! ## The laws together -/

/-- Every step keeps the tracker's law (R4, R5, R6, R7, R10, R17): at most eight periods in the window, a stall timer and a last
tooth in every state but STOPPED, four periods and a working copy from CANDIDATE on, and a tooth index within the wheel. -/
def Obligations.EveryStepKeepsTrackerLaw : Prop :=
  ∀ (s t : State), TrackerLaw s.tracker → step s = .next t → TrackerLaw t.tracker

/-- The state after reset meets every law of the part that a step keeps. -/
def Obligations.ResetMeetsEveryLaw : Prop :=
  let s := State.reset
  PlanLaw s.plan ∧ OpenLaw s ∧ TrackerLaw s.tracker ∧ MergeLaw s ∧ (∀ c, LaneLaw (s.lane c)) ∧ (∀ b, BankLaw (s.bank b)) ∧ DriverLaw s ∧
    (∀ p, PortLaw (s.port p))
end

