-- ==== Sys2Proof/Laws/State.lean ====
section
/-! SUPPORT. One lemma for each field of State and each named update of it, and for each accessor. All hold by `rfl`. -/

namespace Sys2Proof.Machine

/-! ## `advance` -/

@[simp] theorem State.advance_now (s : State) (dt : Nat) : (s.advance dt).now = s.now + dt := rfl
@[simp] theorem State.advance_tracker (s : State) (dt : Nat) : (s.advance dt).tracker = s.tracker := rfl
@[simp] theorem State.advance_syncToCycle (s : State) (dt : Nat) : (s.advance dt).syncToCycle = s.syncToCycle := rfl
@[simp] theorem State.advance_syncToTable (s : State) (dt : Nat) : (s.advance dt).syncToTable = s.syncToTable := rfl
@[simp] theorem State.advance_toothNotices (s : State) (dt : Nat) : (s.advance dt).toothNotices = s.toothNotices := rfl
@[simp] theorem State.advance_plan (s : State) (dt : Nat) : (s.advance dt).plan = s.plan := rfl
@[simp] theorem State.advance_tables (s : State) (dt : Nat) : (s.advance dt).tables = s.tables := rfl
@[simp] theorem State.advance_lanes (s : State) (dt : Nat) : (s.advance dt).lanes = s.lanes := rfl
@[simp] theorem State.advance_service (s : State) (dt : Nat) : (s.advance dt).service = s.service := rfl
@[simp] theorem State.advance_banks (s : State) (dt : Nat) : (s.advance dt).banks = s.banks := rfl
@[simp] theorem State.advance_slots (s : State) (dt : Nat) : (s.advance dt).slots = s.slots := rfl
@[simp] theorem State.advance_mail (s : State) (dt : Nat) : (s.advance dt).mail = s.mail := rfl
@[simp] theorem State.advance_faults (s : State) (dt : Nat) : (s.advance dt).faults = s.faults := rfl
@[simp] theorem State.advance_lowGates (s : State) (dt : Nat) : (s.advance dt).lowGates = s.lowGates := rfl
@[simp] theorem State.advance_sense (s : State) (dt : Nat) : (s.advance dt).sense = s.sense := rfl
@[simp] theorem State.advance_camIn (s : State) (dt : Nat) : (s.advance dt).camIn = s.camIn := rfl
@[simp] theorem State.advance_ports (s : State) (dt : Nat) : (s.advance dt).ports = s.ports := rfl
@[simp] theorem State.advance_lastTaken (s : State) (dt : Nat) : (s.advance dt).lastTaken = s.lastTaken := rfl
@[simp] theorem State.advance_pending (s : State) (dt : Nat) : (s.advance dt).pending = s.pending := rfl
@[simp] theorem State.advance_lane (s : State) (dt : Nat) (i : Cyl) : (s.advance dt).lane i = s.lane i := rfl
@[simp] theorem State.advance_bank (s : State) (dt : Nat) (i : Bank) : (s.advance dt).bank i = s.bank i := rfl
@[simp] theorem State.advance_slot (s : State) (dt : Nat) (i : Bank) : (s.advance dt).slot i = s.slot i := rfl
@[simp] theorem State.advance_mailOf (s : State) (dt : Nat) (i : Bank) : (s.advance dt).mailOf i = s.mailOf i := rfl
@[simp] theorem State.advance_port (s : State) (dt : Nat) (i : Port) : (s.advance dt).port i = s.port i := rfl
@[simp] theorem State.advance_faultsOf (s : State) (dt : Nat) (i : Cyl) : (s.advance dt).faultsOf i = s.faultsOf i := rfl
@[simp] theorem State.advance_senseOf (s : State) (dt : Nat) (i : Bank) : (s.advance dt).senseOf i = s.senseOf i := rfl

/-! ## `setLane` -/

@[simp] theorem State.setLane_now (s : State) (c : Cyl) (l : Lane) : (s.setLane c l).now = s.now := rfl
@[simp] theorem State.setLane_tracker (s : State) (c : Cyl) (l : Lane) : (s.setLane c l).tracker = s.tracker := rfl
@[simp] theorem State.setLane_syncToCycle (s : State) (c : Cyl) (l : Lane) : (s.setLane c l).syncToCycle = s.syncToCycle := rfl
@[simp] theorem State.setLane_syncToTable (s : State) (c : Cyl) (l : Lane) : (s.setLane c l).syncToTable = s.syncToTable := rfl
@[simp] theorem State.setLane_toothNotices (s : State) (c : Cyl) (l : Lane) : (s.setLane c l).toothNotices = s.toothNotices := rfl
@[simp] theorem State.setLane_plan (s : State) (c : Cyl) (l : Lane) : (s.setLane c l).plan = s.plan := rfl
@[simp] theorem State.setLane_tables (s : State) (c : Cyl) (l : Lane) : (s.setLane c l).tables = s.tables := rfl
@[simp] theorem State.setLane_lanes (s : State) (c : Cyl) (l : Lane) : (s.setLane c l).lanes = s.lanes.set c l := rfl
@[simp] theorem State.setLane_service (s : State) (c : Cyl) (l : Lane) : (s.setLane c l).service = s.service := rfl
@[simp] theorem State.setLane_banks (s : State) (c : Cyl) (l : Lane) : (s.setLane c l).banks = s.banks := rfl
@[simp] theorem State.setLane_slots (s : State) (c : Cyl) (l : Lane) : (s.setLane c l).slots = s.slots := rfl
@[simp] theorem State.setLane_mail (s : State) (c : Cyl) (l : Lane) : (s.setLane c l).mail = s.mail := rfl
@[simp] theorem State.setLane_faults (s : State) (c : Cyl) (l : Lane) : (s.setLane c l).faults = s.faults := rfl
@[simp] theorem State.setLane_lowGates (s : State) (c : Cyl) (l : Lane) : (s.setLane c l).lowGates = s.lowGates := rfl
@[simp] theorem State.setLane_sense (s : State) (c : Cyl) (l : Lane) : (s.setLane c l).sense = s.sense := rfl
@[simp] theorem State.setLane_camIn (s : State) (c : Cyl) (l : Lane) : (s.setLane c l).camIn = s.camIn := rfl
@[simp] theorem State.setLane_ports (s : State) (c : Cyl) (l : Lane) : (s.setLane c l).ports = s.ports := rfl
@[simp] theorem State.setLane_lastTaken (s : State) (c : Cyl) (l : Lane) : (s.setLane c l).lastTaken = s.lastTaken := rfl
@[simp] theorem State.setLane_pending (s : State) (c : Cyl) (l : Lane) : (s.setLane c l).pending = s.pending := rfl
@[simp] theorem State.setLane_bank (s : State) (c : Cyl) (l : Lane) (i : Bank) : (s.setLane c l).bank i = s.bank i := rfl
@[simp] theorem State.setLane_slot (s : State) (c : Cyl) (l : Lane) (i : Bank) : (s.setLane c l).slot i = s.slot i := rfl
@[simp] theorem State.setLane_mailOf (s : State) (c : Cyl) (l : Lane) (i : Bank) : (s.setLane c l).mailOf i = s.mailOf i := rfl
@[simp] theorem State.setLane_port (s : State) (c : Cyl) (l : Lane) (i : Port) : (s.setLane c l).port i = s.port i := rfl
@[simp] theorem State.setLane_faultsOf (s : State) (c : Cyl) (l : Lane) (i : Cyl) : (s.setLane c l).faultsOf i = s.faultsOf i := rfl
@[simp] theorem State.setLane_senseOf (s : State) (c : Cyl) (l : Lane) (i : Bank) : (s.setLane c l).senseOf i = s.senseOf i := rfl

/-! ## `setBank` -/

@[simp] theorem State.setBank_now (s : State) (b : Bank) (r : BankRecord) : (s.setBank b r).now = s.now := rfl
@[simp] theorem State.setBank_tracker (s : State) (b : Bank) (r : BankRecord) : (s.setBank b r).tracker = s.tracker := rfl
@[simp] theorem State.setBank_syncToCycle (s : State) (b : Bank) (r : BankRecord) : (s.setBank b r).syncToCycle = s.syncToCycle := rfl
@[simp] theorem State.setBank_syncToTable (s : State) (b : Bank) (r : BankRecord) : (s.setBank b r).syncToTable = s.syncToTable := rfl
@[simp] theorem State.setBank_toothNotices (s : State) (b : Bank) (r : BankRecord) : (s.setBank b r).toothNotices = s.toothNotices := rfl
@[simp] theorem State.setBank_plan (s : State) (b : Bank) (r : BankRecord) : (s.setBank b r).plan = s.plan := rfl
@[simp] theorem State.setBank_tables (s : State) (b : Bank) (r : BankRecord) : (s.setBank b r).tables = s.tables := rfl
@[simp] theorem State.setBank_lanes (s : State) (b : Bank) (r : BankRecord) : (s.setBank b r).lanes = s.lanes := rfl
@[simp] theorem State.setBank_service (s : State) (b : Bank) (r : BankRecord) : (s.setBank b r).service = s.service := rfl
@[simp] theorem State.setBank_banks (s : State) (b : Bank) (r : BankRecord) : (s.setBank b r).banks = s.banks.set b r := rfl
@[simp] theorem State.setBank_slots (s : State) (b : Bank) (r : BankRecord) : (s.setBank b r).slots = s.slots := rfl
@[simp] theorem State.setBank_mail (s : State) (b : Bank) (r : BankRecord) : (s.setBank b r).mail = s.mail := rfl
@[simp] theorem State.setBank_faults (s : State) (b : Bank) (r : BankRecord) : (s.setBank b r).faults = s.faults := rfl
@[simp] theorem State.setBank_lowGates (s : State) (b : Bank) (r : BankRecord) : (s.setBank b r).lowGates = s.lowGates := rfl
@[simp] theorem State.setBank_sense (s : State) (b : Bank) (r : BankRecord) : (s.setBank b r).sense = s.sense := rfl
@[simp] theorem State.setBank_camIn (s : State) (b : Bank) (r : BankRecord) : (s.setBank b r).camIn = s.camIn := rfl
@[simp] theorem State.setBank_ports (s : State) (b : Bank) (r : BankRecord) : (s.setBank b r).ports = s.ports := rfl
@[simp] theorem State.setBank_lastTaken (s : State) (b : Bank) (r : BankRecord) : (s.setBank b r).lastTaken = s.lastTaken := rfl
@[simp] theorem State.setBank_pending (s : State) (b : Bank) (r : BankRecord) : (s.setBank b r).pending = s.pending := rfl
@[simp] theorem State.setBank_lane (s : State) (b : Bank) (r : BankRecord) (i : Cyl) : (s.setBank b r).lane i = s.lane i := rfl
@[simp] theorem State.setBank_slot (s : State) (b : Bank) (r : BankRecord) (i : Bank) : (s.setBank b r).slot i = s.slot i := rfl
@[simp] theorem State.setBank_mailOf (s : State) (b : Bank) (r : BankRecord) (i : Bank) : (s.setBank b r).mailOf i = s.mailOf i := rfl
@[simp] theorem State.setBank_port (s : State) (b : Bank) (r : BankRecord) (i : Port) : (s.setBank b r).port i = s.port i := rfl
@[simp] theorem State.setBank_faultsOf (s : State) (b : Bank) (r : BankRecord) (i : Cyl) : (s.setBank b r).faultsOf i = s.faultsOf i := rfl
@[simp] theorem State.setBank_senseOf (s : State) (b : Bank) (r : BankRecord) (i : Bank) : (s.setBank b r).senseOf i = s.senseOf i := rfl

/-! ## `setSlot` -/

@[simp] theorem State.setSlot_now (s : State) (b : Bank) (d : DriveSlot) : (s.setSlot b d).now = s.now := rfl
@[simp] theorem State.setSlot_tracker (s : State) (b : Bank) (d : DriveSlot) : (s.setSlot b d).tracker = s.tracker := rfl
@[simp] theorem State.setSlot_syncToCycle (s : State) (b : Bank) (d : DriveSlot) : (s.setSlot b d).syncToCycle = s.syncToCycle := rfl
@[simp] theorem State.setSlot_syncToTable (s : State) (b : Bank) (d : DriveSlot) : (s.setSlot b d).syncToTable = s.syncToTable := rfl
@[simp] theorem State.setSlot_toothNotices (s : State) (b : Bank) (d : DriveSlot) : (s.setSlot b d).toothNotices = s.toothNotices := rfl
@[simp] theorem State.setSlot_plan (s : State) (b : Bank) (d : DriveSlot) : (s.setSlot b d).plan = s.plan := rfl
@[simp] theorem State.setSlot_tables (s : State) (b : Bank) (d : DriveSlot) : (s.setSlot b d).tables = s.tables := rfl
@[simp] theorem State.setSlot_lanes (s : State) (b : Bank) (d : DriveSlot) : (s.setSlot b d).lanes = s.lanes := rfl
@[simp] theorem State.setSlot_service (s : State) (b : Bank) (d : DriveSlot) : (s.setSlot b d).service = s.service := rfl
@[simp] theorem State.setSlot_banks (s : State) (b : Bank) (d : DriveSlot) : (s.setSlot b d).banks = s.banks := rfl
@[simp] theorem State.setSlot_slots (s : State) (b : Bank) (d : DriveSlot) : (s.setSlot b d).slots = s.slots.set b d := rfl
@[simp] theorem State.setSlot_mail (s : State) (b : Bank) (d : DriveSlot) : (s.setSlot b d).mail = s.mail := rfl
@[simp] theorem State.setSlot_faults (s : State) (b : Bank) (d : DriveSlot) : (s.setSlot b d).faults = s.faults := rfl
@[simp] theorem State.setSlot_lowGates (s : State) (b : Bank) (d : DriveSlot) : (s.setSlot b d).lowGates = s.lowGates := rfl
@[simp] theorem State.setSlot_sense (s : State) (b : Bank) (d : DriveSlot) : (s.setSlot b d).sense = s.sense := rfl
@[simp] theorem State.setSlot_camIn (s : State) (b : Bank) (d : DriveSlot) : (s.setSlot b d).camIn = s.camIn := rfl
@[simp] theorem State.setSlot_ports (s : State) (b : Bank) (d : DriveSlot) : (s.setSlot b d).ports = s.ports := rfl
@[simp] theorem State.setSlot_lastTaken (s : State) (b : Bank) (d : DriveSlot) : (s.setSlot b d).lastTaken = s.lastTaken := rfl
@[simp] theorem State.setSlot_pending (s : State) (b : Bank) (d : DriveSlot) : (s.setSlot b d).pending = s.pending := rfl
@[simp] theorem State.setSlot_lane (s : State) (b : Bank) (d : DriveSlot) (i : Cyl) : (s.setSlot b d).lane i = s.lane i := rfl
@[simp] theorem State.setSlot_bank (s : State) (b : Bank) (d : DriveSlot) (i : Bank) : (s.setSlot b d).bank i = s.bank i := rfl
@[simp] theorem State.setSlot_mailOf (s : State) (b : Bank) (d : DriveSlot) (i : Bank) : (s.setSlot b d).mailOf i = s.mailOf i := rfl
@[simp] theorem State.setSlot_port (s : State) (b : Bank) (d : DriveSlot) (i : Port) : (s.setSlot b d).port i = s.port i := rfl
@[simp] theorem State.setSlot_faultsOf (s : State) (b : Bank) (d : DriveSlot) (i : Cyl) : (s.setSlot b d).faultsOf i = s.faultsOf i := rfl
@[simp] theorem State.setSlot_senseOf (s : State) (b : Bank) (d : DriveSlot) (i : Bank) : (s.setSlot b d).senseOf i = s.senseOf i := rfl

/-! ## `setMail` -/

@[simp] theorem State.setMail_now (s : State) (b : Bank) (m : SlotMail) : (s.setMail b m).now = s.now := rfl
@[simp] theorem State.setMail_tracker (s : State) (b : Bank) (m : SlotMail) : (s.setMail b m).tracker = s.tracker := rfl
@[simp] theorem State.setMail_syncToCycle (s : State) (b : Bank) (m : SlotMail) : (s.setMail b m).syncToCycle = s.syncToCycle := rfl
@[simp] theorem State.setMail_syncToTable (s : State) (b : Bank) (m : SlotMail) : (s.setMail b m).syncToTable = s.syncToTable := rfl
@[simp] theorem State.setMail_toothNotices (s : State) (b : Bank) (m : SlotMail) : (s.setMail b m).toothNotices = s.toothNotices := rfl
@[simp] theorem State.setMail_plan (s : State) (b : Bank) (m : SlotMail) : (s.setMail b m).plan = s.plan := rfl
@[simp] theorem State.setMail_tables (s : State) (b : Bank) (m : SlotMail) : (s.setMail b m).tables = s.tables := rfl
@[simp] theorem State.setMail_lanes (s : State) (b : Bank) (m : SlotMail) : (s.setMail b m).lanes = s.lanes := rfl
@[simp] theorem State.setMail_service (s : State) (b : Bank) (m : SlotMail) : (s.setMail b m).service = s.service := rfl
@[simp] theorem State.setMail_banks (s : State) (b : Bank) (m : SlotMail) : (s.setMail b m).banks = s.banks := rfl
@[simp] theorem State.setMail_slots (s : State) (b : Bank) (m : SlotMail) : (s.setMail b m).slots = s.slots := rfl
@[simp] theorem State.setMail_mail (s : State) (b : Bank) (m : SlotMail) : (s.setMail b m).mail = s.mail.set b m := rfl
@[simp] theorem State.setMail_faults (s : State) (b : Bank) (m : SlotMail) : (s.setMail b m).faults = s.faults := rfl
@[simp] theorem State.setMail_lowGates (s : State) (b : Bank) (m : SlotMail) : (s.setMail b m).lowGates = s.lowGates := rfl
@[simp] theorem State.setMail_sense (s : State) (b : Bank) (m : SlotMail) : (s.setMail b m).sense = s.sense := rfl
@[simp] theorem State.setMail_camIn (s : State) (b : Bank) (m : SlotMail) : (s.setMail b m).camIn = s.camIn := rfl
@[simp] theorem State.setMail_ports (s : State) (b : Bank) (m : SlotMail) : (s.setMail b m).ports = s.ports := rfl
@[simp] theorem State.setMail_lastTaken (s : State) (b : Bank) (m : SlotMail) : (s.setMail b m).lastTaken = s.lastTaken := rfl
@[simp] theorem State.setMail_pending (s : State) (b : Bank) (m : SlotMail) : (s.setMail b m).pending = s.pending := rfl
@[simp] theorem State.setMail_lane (s : State) (b : Bank) (m : SlotMail) (i : Cyl) : (s.setMail b m).lane i = s.lane i := rfl
@[simp] theorem State.setMail_bank (s : State) (b : Bank) (m : SlotMail) (i : Bank) : (s.setMail b m).bank i = s.bank i := rfl
@[simp] theorem State.setMail_slot (s : State) (b : Bank) (m : SlotMail) (i : Bank) : (s.setMail b m).slot i = s.slot i := rfl
@[simp] theorem State.setMail_port (s : State) (b : Bank) (m : SlotMail) (i : Port) : (s.setMail b m).port i = s.port i := rfl
@[simp] theorem State.setMail_faultsOf (s : State) (b : Bank) (m : SlotMail) (i : Cyl) : (s.setMail b m).faultsOf i = s.faultsOf i := rfl
@[simp] theorem State.setMail_senseOf (s : State) (b : Bank) (m : SlotMail) (i : Bank) : (s.setMail b m).senseOf i = s.senseOf i := rfl

/-! ## `setPort` -/

@[simp] theorem State.setPort_now (s : State) (p : Port) (q : PortState) : (s.setPort p q).now = s.now := rfl
@[simp] theorem State.setPort_tracker (s : State) (p : Port) (q : PortState) : (s.setPort p q).tracker = s.tracker := rfl
@[simp] theorem State.setPort_syncToCycle (s : State) (p : Port) (q : PortState) : (s.setPort p q).syncToCycle = s.syncToCycle := rfl
@[simp] theorem State.setPort_syncToTable (s : State) (p : Port) (q : PortState) : (s.setPort p q).syncToTable = s.syncToTable := rfl
@[simp] theorem State.setPort_toothNotices (s : State) (p : Port) (q : PortState) : (s.setPort p q).toothNotices = s.toothNotices := rfl
@[simp] theorem State.setPort_plan (s : State) (p : Port) (q : PortState) : (s.setPort p q).plan = s.plan := rfl
@[simp] theorem State.setPort_tables (s : State) (p : Port) (q : PortState) : (s.setPort p q).tables = s.tables := rfl
@[simp] theorem State.setPort_lanes (s : State) (p : Port) (q : PortState) : (s.setPort p q).lanes = s.lanes := rfl
@[simp] theorem State.setPort_service (s : State) (p : Port) (q : PortState) : (s.setPort p q).service = s.service := rfl
@[simp] theorem State.setPort_banks (s : State) (p : Port) (q : PortState) : (s.setPort p q).banks = s.banks := rfl
@[simp] theorem State.setPort_slots (s : State) (p : Port) (q : PortState) : (s.setPort p q).slots = s.slots := rfl
@[simp] theorem State.setPort_mail (s : State) (p : Port) (q : PortState) : (s.setPort p q).mail = s.mail := rfl
@[simp] theorem State.setPort_faults (s : State) (p : Port) (q : PortState) : (s.setPort p q).faults = s.faults := rfl
@[simp] theorem State.setPort_lowGates (s : State) (p : Port) (q : PortState) : (s.setPort p q).lowGates = s.lowGates := rfl
@[simp] theorem State.setPort_sense (s : State) (p : Port) (q : PortState) : (s.setPort p q).sense = s.sense := rfl
@[simp] theorem State.setPort_camIn (s : State) (p : Port) (q : PortState) : (s.setPort p q).camIn = s.camIn := rfl
@[simp] theorem State.setPort_ports (s : State) (p : Port) (q : PortState) : (s.setPort p q).ports = s.ports.set p q := rfl
@[simp] theorem State.setPort_lastTaken (s : State) (p : Port) (q : PortState) : (s.setPort p q).lastTaken = s.lastTaken := rfl
@[simp] theorem State.setPort_pending (s : State) (p : Port) (q : PortState) : (s.setPort p q).pending = s.pending := rfl
@[simp] theorem State.setPort_lane (s : State) (p : Port) (q : PortState) (i : Cyl) : (s.setPort p q).lane i = s.lane i := rfl
@[simp] theorem State.setPort_bank (s : State) (p : Port) (q : PortState) (i : Bank) : (s.setPort p q).bank i = s.bank i := rfl
@[simp] theorem State.setPort_slot (s : State) (p : Port) (q : PortState) (i : Bank) : (s.setPort p q).slot i = s.slot i := rfl
@[simp] theorem State.setPort_mailOf (s : State) (p : Port) (q : PortState) (i : Bank) : (s.setPort p q).mailOf i = s.mailOf i := rfl
@[simp] theorem State.setPort_faultsOf (s : State) (p : Port) (q : PortState) (i : Cyl) : (s.setPort p q).faultsOf i = s.faultsOf i := rfl
@[simp] theorem State.setPort_senseOf (s : State) (p : Port) (q : PortState) (i : Bank) : (s.setPort p q).senseOf i = s.senseOf i := rfl

/-! ## `setFaults` -/

@[simp] theorem State.setFaults_now (s : State) (c : Cyl) (f : CylinderFaults) : (s.setFaults c f).now = s.now := rfl
@[simp] theorem State.setFaults_tracker (s : State) (c : Cyl) (f : CylinderFaults) : (s.setFaults c f).tracker = s.tracker := rfl
@[simp] theorem State.setFaults_syncToCycle (s : State) (c : Cyl) (f : CylinderFaults) : (s.setFaults c f).syncToCycle = s.syncToCycle := rfl
@[simp] theorem State.setFaults_syncToTable (s : State) (c : Cyl) (f : CylinderFaults) : (s.setFaults c f).syncToTable = s.syncToTable := rfl
@[simp] theorem State.setFaults_toothNotices (s : State) (c : Cyl) (f : CylinderFaults) : (s.setFaults c f).toothNotices = s.toothNotices := rfl
@[simp] theorem State.setFaults_plan (s : State) (c : Cyl) (f : CylinderFaults) : (s.setFaults c f).plan = s.plan := rfl
@[simp] theorem State.setFaults_tables (s : State) (c : Cyl) (f : CylinderFaults) : (s.setFaults c f).tables = s.tables := rfl
@[simp] theorem State.setFaults_lanes (s : State) (c : Cyl) (f : CylinderFaults) : (s.setFaults c f).lanes = s.lanes := rfl
@[simp] theorem State.setFaults_service (s : State) (c : Cyl) (f : CylinderFaults) : (s.setFaults c f).service = s.service := rfl
@[simp] theorem State.setFaults_banks (s : State) (c : Cyl) (f : CylinderFaults) : (s.setFaults c f).banks = s.banks := rfl
@[simp] theorem State.setFaults_slots (s : State) (c : Cyl) (f : CylinderFaults) : (s.setFaults c f).slots = s.slots := rfl
@[simp] theorem State.setFaults_mail (s : State) (c : Cyl) (f : CylinderFaults) : (s.setFaults c f).mail = s.mail := rfl
@[simp] theorem State.setFaults_faults (s : State) (c : Cyl) (f : CylinderFaults) : (s.setFaults c f).faults = s.faults.set c f := rfl
@[simp] theorem State.setFaults_lowGates (s : State) (c : Cyl) (f : CylinderFaults) : (s.setFaults c f).lowGates = s.lowGates := rfl
@[simp] theorem State.setFaults_sense (s : State) (c : Cyl) (f : CylinderFaults) : (s.setFaults c f).sense = s.sense := rfl
@[simp] theorem State.setFaults_camIn (s : State) (c : Cyl) (f : CylinderFaults) : (s.setFaults c f).camIn = s.camIn := rfl
@[simp] theorem State.setFaults_ports (s : State) (c : Cyl) (f : CylinderFaults) : (s.setFaults c f).ports = s.ports := rfl
@[simp] theorem State.setFaults_lastTaken (s : State) (c : Cyl) (f : CylinderFaults) : (s.setFaults c f).lastTaken = s.lastTaken := rfl
@[simp] theorem State.setFaults_pending (s : State) (c : Cyl) (f : CylinderFaults) : (s.setFaults c f).pending = s.pending := rfl
@[simp] theorem State.setFaults_lane (s : State) (c : Cyl) (f : CylinderFaults) (i : Cyl) : (s.setFaults c f).lane i = s.lane i := rfl
@[simp] theorem State.setFaults_bank (s : State) (c : Cyl) (f : CylinderFaults) (i : Bank) : (s.setFaults c f).bank i = s.bank i := rfl
@[simp] theorem State.setFaults_slot (s : State) (c : Cyl) (f : CylinderFaults) (i : Bank) : (s.setFaults c f).slot i = s.slot i := rfl
@[simp] theorem State.setFaults_mailOf (s : State) (c : Cyl) (f : CylinderFaults) (i : Bank) : (s.setFaults c f).mailOf i = s.mailOf i := rfl
@[simp] theorem State.setFaults_port (s : State) (c : Cyl) (f : CylinderFaults) (i : Port) : (s.setFaults c f).port i = s.port i := rfl
@[simp] theorem State.setFaults_senseOf (s : State) (c : Cyl) (f : CylinderFaults) (i : Bank) : (s.setFaults c f).senseOf i = s.senseOf i := rfl

/-! ## `setLowGate` -/

@[simp] theorem State.setLowGate_now (s : State) (c : Cyl) (on : Bool) : (s.setLowGate c on).now = s.now := rfl
@[simp] theorem State.setLowGate_tracker (s : State) (c : Cyl) (on : Bool) : (s.setLowGate c on).tracker = s.tracker := rfl
@[simp] theorem State.setLowGate_syncToCycle (s : State) (c : Cyl) (on : Bool) : (s.setLowGate c on).syncToCycle = s.syncToCycle := rfl
@[simp] theorem State.setLowGate_syncToTable (s : State) (c : Cyl) (on : Bool) : (s.setLowGate c on).syncToTable = s.syncToTable := rfl
@[simp] theorem State.setLowGate_toothNotices (s : State) (c : Cyl) (on : Bool) : (s.setLowGate c on).toothNotices = s.toothNotices := rfl
@[simp] theorem State.setLowGate_plan (s : State) (c : Cyl) (on : Bool) : (s.setLowGate c on).plan = s.plan := rfl
@[simp] theorem State.setLowGate_tables (s : State) (c : Cyl) (on : Bool) : (s.setLowGate c on).tables = s.tables := rfl
@[simp] theorem State.setLowGate_lanes (s : State) (c : Cyl) (on : Bool) : (s.setLowGate c on).lanes = s.lanes := rfl
@[simp] theorem State.setLowGate_service (s : State) (c : Cyl) (on : Bool) : (s.setLowGate c on).service = s.service := rfl
@[simp] theorem State.setLowGate_banks (s : State) (c : Cyl) (on : Bool) : (s.setLowGate c on).banks = s.banks := rfl
@[simp] theorem State.setLowGate_slots (s : State) (c : Cyl) (on : Bool) : (s.setLowGate c on).slots = s.slots := rfl
@[simp] theorem State.setLowGate_mail (s : State) (c : Cyl) (on : Bool) : (s.setLowGate c on).mail = s.mail := rfl
@[simp] theorem State.setLowGate_faults (s : State) (c : Cyl) (on : Bool) : (s.setLowGate c on).faults = s.faults := rfl
@[simp] theorem State.setLowGate_lowGates (s : State) (c : Cyl) (on : Bool) : (s.setLowGate c on).lowGates = s.lowGates.set c on := rfl
@[simp] theorem State.setLowGate_sense (s : State) (c : Cyl) (on : Bool) : (s.setLowGate c on).sense = s.sense := rfl
@[simp] theorem State.setLowGate_camIn (s : State) (c : Cyl) (on : Bool) : (s.setLowGate c on).camIn = s.camIn := rfl
@[simp] theorem State.setLowGate_ports (s : State) (c : Cyl) (on : Bool) : (s.setLowGate c on).ports = s.ports := rfl
@[simp] theorem State.setLowGate_lastTaken (s : State) (c : Cyl) (on : Bool) : (s.setLowGate c on).lastTaken = s.lastTaken := rfl
@[simp] theorem State.setLowGate_pending (s : State) (c : Cyl) (on : Bool) : (s.setLowGate c on).pending = s.pending := rfl
@[simp] theorem State.setLowGate_lane (s : State) (c : Cyl) (on : Bool) (i : Cyl) : (s.setLowGate c on).lane i = s.lane i := rfl
@[simp] theorem State.setLowGate_bank (s : State) (c : Cyl) (on : Bool) (i : Bank) : (s.setLowGate c on).bank i = s.bank i := rfl
@[simp] theorem State.setLowGate_slot (s : State) (c : Cyl) (on : Bool) (i : Bank) : (s.setLowGate c on).slot i = s.slot i := rfl
@[simp] theorem State.setLowGate_mailOf (s : State) (c : Cyl) (on : Bool) (i : Bank) : (s.setLowGate c on).mailOf i = s.mailOf i := rfl
@[simp] theorem State.setLowGate_port (s : State) (c : Cyl) (on : Bool) (i : Port) : (s.setLowGate c on).port i = s.port i := rfl
@[simp] theorem State.setLowGate_faultsOf (s : State) (c : Cyl) (on : Bool) (i : Cyl) : (s.setLowGate c on).faultsOf i = s.faultsOf i := rfl
@[simp] theorem State.setLowGate_senseOf (s : State) (c : Cyl) (on : Bool) (i : Bank) : (s.setLowGate c on).senseOf i = s.senseOf i := rfl

/-! ## `setSense` -/

@[simp] theorem State.setSense_now (s : State) (b : Bank) (x : Sense) : (s.setSense b x).now = s.now := rfl
@[simp] theorem State.setSense_tracker (s : State) (b : Bank) (x : Sense) : (s.setSense b x).tracker = s.tracker := rfl
@[simp] theorem State.setSense_syncToCycle (s : State) (b : Bank) (x : Sense) : (s.setSense b x).syncToCycle = s.syncToCycle := rfl
@[simp] theorem State.setSense_syncToTable (s : State) (b : Bank) (x : Sense) : (s.setSense b x).syncToTable = s.syncToTable := rfl
@[simp] theorem State.setSense_toothNotices (s : State) (b : Bank) (x : Sense) : (s.setSense b x).toothNotices = s.toothNotices := rfl
@[simp] theorem State.setSense_plan (s : State) (b : Bank) (x : Sense) : (s.setSense b x).plan = s.plan := rfl
@[simp] theorem State.setSense_tables (s : State) (b : Bank) (x : Sense) : (s.setSense b x).tables = s.tables := rfl
@[simp] theorem State.setSense_lanes (s : State) (b : Bank) (x : Sense) : (s.setSense b x).lanes = s.lanes := rfl
@[simp] theorem State.setSense_service (s : State) (b : Bank) (x : Sense) : (s.setSense b x).service = s.service := rfl
@[simp] theorem State.setSense_banks (s : State) (b : Bank) (x : Sense) : (s.setSense b x).banks = s.banks := rfl
@[simp] theorem State.setSense_slots (s : State) (b : Bank) (x : Sense) : (s.setSense b x).slots = s.slots := rfl
@[simp] theorem State.setSense_mail (s : State) (b : Bank) (x : Sense) : (s.setSense b x).mail = s.mail := rfl
@[simp] theorem State.setSense_faults (s : State) (b : Bank) (x : Sense) : (s.setSense b x).faults = s.faults := rfl
@[simp] theorem State.setSense_lowGates (s : State) (b : Bank) (x : Sense) : (s.setSense b x).lowGates = s.lowGates := rfl
@[simp] theorem State.setSense_sense (s : State) (b : Bank) (x : Sense) : (s.setSense b x).sense = s.sense.set b x := rfl
@[simp] theorem State.setSense_camIn (s : State) (b : Bank) (x : Sense) : (s.setSense b x).camIn = s.camIn := rfl
@[simp] theorem State.setSense_ports (s : State) (b : Bank) (x : Sense) : (s.setSense b x).ports = s.ports := rfl
@[simp] theorem State.setSense_lastTaken (s : State) (b : Bank) (x : Sense) : (s.setSense b x).lastTaken = s.lastTaken := rfl
@[simp] theorem State.setSense_pending (s : State) (b : Bank) (x : Sense) : (s.setSense b x).pending = s.pending := rfl
@[simp] theorem State.setSense_lane (s : State) (b : Bank) (x : Sense) (i : Cyl) : (s.setSense b x).lane i = s.lane i := rfl
@[simp] theorem State.setSense_bank (s : State) (b : Bank) (x : Sense) (i : Bank) : (s.setSense b x).bank i = s.bank i := rfl
@[simp] theorem State.setSense_slot (s : State) (b : Bank) (x : Sense) (i : Bank) : (s.setSense b x).slot i = s.slot i := rfl
@[simp] theorem State.setSense_mailOf (s : State) (b : Bank) (x : Sense) (i : Bank) : (s.setSense b x).mailOf i = s.mailOf i := rfl
@[simp] theorem State.setSense_port (s : State) (b : Bank) (x : Sense) (i : Port) : (s.setSense b x).port i = s.port i := rfl
@[simp] theorem State.setSense_faultsOf (s : State) (b : Bank) (x : Sense) (i : Cyl) : (s.setSense b x).faultsOf i = s.faultsOf i := rfl

/-! ## `setTracker` -/

@[simp] theorem State.setTracker_now (s : State) (t : Tracker) : (s.setTracker t).now = s.now := rfl
@[simp] theorem State.setTracker_tracker (s : State) (t : Tracker) : (s.setTracker t).tracker = t := rfl
@[simp] theorem State.setTracker_syncToCycle (s : State) (t : Tracker) : (s.setTracker t).syncToCycle = s.syncToCycle := rfl
@[simp] theorem State.setTracker_syncToTable (s : State) (t : Tracker) : (s.setTracker t).syncToTable = s.syncToTable := rfl
@[simp] theorem State.setTracker_toothNotices (s : State) (t : Tracker) : (s.setTracker t).toothNotices = s.toothNotices := rfl
@[simp] theorem State.setTracker_plan (s : State) (t : Tracker) : (s.setTracker t).plan = s.plan := rfl
@[simp] theorem State.setTracker_tables (s : State) (t : Tracker) : (s.setTracker t).tables = s.tables := rfl
@[simp] theorem State.setTracker_lanes (s : State) (t : Tracker) : (s.setTracker t).lanes = s.lanes := rfl
@[simp] theorem State.setTracker_service (s : State) (t : Tracker) : (s.setTracker t).service = s.service := rfl
@[simp] theorem State.setTracker_banks (s : State) (t : Tracker) : (s.setTracker t).banks = s.banks := rfl
@[simp] theorem State.setTracker_slots (s : State) (t : Tracker) : (s.setTracker t).slots = s.slots := rfl
@[simp] theorem State.setTracker_mail (s : State) (t : Tracker) : (s.setTracker t).mail = s.mail := rfl
@[simp] theorem State.setTracker_faults (s : State) (t : Tracker) : (s.setTracker t).faults = s.faults := rfl
@[simp] theorem State.setTracker_lowGates (s : State) (t : Tracker) : (s.setTracker t).lowGates = s.lowGates := rfl
@[simp] theorem State.setTracker_sense (s : State) (t : Tracker) : (s.setTracker t).sense = s.sense := rfl
@[simp] theorem State.setTracker_camIn (s : State) (t : Tracker) : (s.setTracker t).camIn = s.camIn := rfl
@[simp] theorem State.setTracker_ports (s : State) (t : Tracker) : (s.setTracker t).ports = s.ports := rfl
@[simp] theorem State.setTracker_lastTaken (s : State) (t : Tracker) : (s.setTracker t).lastTaken = s.lastTaken := rfl
@[simp] theorem State.setTracker_pending (s : State) (t : Tracker) : (s.setTracker t).pending = s.pending := rfl
@[simp] theorem State.setTracker_lane (s : State) (t : Tracker) (i : Cyl) : (s.setTracker t).lane i = s.lane i := rfl
@[simp] theorem State.setTracker_bank (s : State) (t : Tracker) (i : Bank) : (s.setTracker t).bank i = s.bank i := rfl
@[simp] theorem State.setTracker_slot (s : State) (t : Tracker) (i : Bank) : (s.setTracker t).slot i = s.slot i := rfl
@[simp] theorem State.setTracker_mailOf (s : State) (t : Tracker) (i : Bank) : (s.setTracker t).mailOf i = s.mailOf i := rfl
@[simp] theorem State.setTracker_port (s : State) (t : Tracker) (i : Port) : (s.setTracker t).port i = s.port i := rfl
@[simp] theorem State.setTracker_faultsOf (s : State) (t : Tracker) (i : Cyl) : (s.setTracker t).faultsOf i = s.faultsOf i := rfl
@[simp] theorem State.setTracker_senseOf (s : State) (t : Tracker) (i : Bank) : (s.setTracker t).senseOf i = s.senseOf i := rfl

/-! ## `setPlan` -/

@[simp] theorem State.setPlan_now (s : State) (p : Plan) : (s.setPlan p).now = s.now := rfl
@[simp] theorem State.setPlan_tracker (s : State) (p : Plan) : (s.setPlan p).tracker = s.tracker := rfl
@[simp] theorem State.setPlan_syncToCycle (s : State) (p : Plan) : (s.setPlan p).syncToCycle = s.syncToCycle := rfl
@[simp] theorem State.setPlan_syncToTable (s : State) (p : Plan) : (s.setPlan p).syncToTable = s.syncToTable := rfl
@[simp] theorem State.setPlan_toothNotices (s : State) (p : Plan) : (s.setPlan p).toothNotices = s.toothNotices := rfl
@[simp] theorem State.setPlan_plan (s : State) (p : Plan) : (s.setPlan p).plan = p := rfl
@[simp] theorem State.setPlan_tables (s : State) (p : Plan) : (s.setPlan p).tables = s.tables := rfl
@[simp] theorem State.setPlan_lanes (s : State) (p : Plan) : (s.setPlan p).lanes = s.lanes := rfl
@[simp] theorem State.setPlan_service (s : State) (p : Plan) : (s.setPlan p).service = s.service := rfl
@[simp] theorem State.setPlan_banks (s : State) (p : Plan) : (s.setPlan p).banks = s.banks := rfl
@[simp] theorem State.setPlan_slots (s : State) (p : Plan) : (s.setPlan p).slots = s.slots := rfl
@[simp] theorem State.setPlan_mail (s : State) (p : Plan) : (s.setPlan p).mail = s.mail := rfl
@[simp] theorem State.setPlan_faults (s : State) (p : Plan) : (s.setPlan p).faults = s.faults := rfl
@[simp] theorem State.setPlan_lowGates (s : State) (p : Plan) : (s.setPlan p).lowGates = s.lowGates := rfl
@[simp] theorem State.setPlan_sense (s : State) (p : Plan) : (s.setPlan p).sense = s.sense := rfl
@[simp] theorem State.setPlan_camIn (s : State) (p : Plan) : (s.setPlan p).camIn = s.camIn := rfl
@[simp] theorem State.setPlan_ports (s : State) (p : Plan) : (s.setPlan p).ports = s.ports := rfl
@[simp] theorem State.setPlan_lastTaken (s : State) (p : Plan) : (s.setPlan p).lastTaken = s.lastTaken := rfl
@[simp] theorem State.setPlan_pending (s : State) (p : Plan) : (s.setPlan p).pending = s.pending := rfl
@[simp] theorem State.setPlan_lane (s : State) (p : Plan) (i : Cyl) : (s.setPlan p).lane i = s.lane i := rfl
@[simp] theorem State.setPlan_bank (s : State) (p : Plan) (i : Bank) : (s.setPlan p).bank i = s.bank i := rfl
@[simp] theorem State.setPlan_slot (s : State) (p : Plan) (i : Bank) : (s.setPlan p).slot i = s.slot i := rfl
@[simp] theorem State.setPlan_mailOf (s : State) (p : Plan) (i : Bank) : (s.setPlan p).mailOf i = s.mailOf i := rfl
@[simp] theorem State.setPlan_port (s : State) (p : Plan) (i : Port) : (s.setPlan p).port i = s.port i := rfl
@[simp] theorem State.setPlan_faultsOf (s : State) (p : Plan) (i : Cyl) : (s.setPlan p).faultsOf i = s.faultsOf i := rfl
@[simp] theorem State.setPlan_senseOf (s : State) (p : Plan) (i : Bank) : (s.setPlan p).senseOf i = s.senseOf i := rfl

/-! ## `setTables` -/

@[simp] theorem State.setTables_now (s : State) (t : Tables) : (s.setTables t).now = s.now := rfl
@[simp] theorem State.setTables_tracker (s : State) (t : Tables) : (s.setTables t).tracker = s.tracker := rfl
@[simp] theorem State.setTables_syncToCycle (s : State) (t : Tables) : (s.setTables t).syncToCycle = s.syncToCycle := rfl
@[simp] theorem State.setTables_syncToTable (s : State) (t : Tables) : (s.setTables t).syncToTable = s.syncToTable := rfl
@[simp] theorem State.setTables_toothNotices (s : State) (t : Tables) : (s.setTables t).toothNotices = s.toothNotices := rfl
@[simp] theorem State.setTables_plan (s : State) (t : Tables) : (s.setTables t).plan = s.plan := rfl
@[simp] theorem State.setTables_tables (s : State) (t : Tables) : (s.setTables t).tables = t := rfl
@[simp] theorem State.setTables_lanes (s : State) (t : Tables) : (s.setTables t).lanes = s.lanes := rfl
@[simp] theorem State.setTables_service (s : State) (t : Tables) : (s.setTables t).service = s.service := rfl
@[simp] theorem State.setTables_banks (s : State) (t : Tables) : (s.setTables t).banks = s.banks := rfl
@[simp] theorem State.setTables_slots (s : State) (t : Tables) : (s.setTables t).slots = s.slots := rfl
@[simp] theorem State.setTables_mail (s : State) (t : Tables) : (s.setTables t).mail = s.mail := rfl
@[simp] theorem State.setTables_faults (s : State) (t : Tables) : (s.setTables t).faults = s.faults := rfl
@[simp] theorem State.setTables_lowGates (s : State) (t : Tables) : (s.setTables t).lowGates = s.lowGates := rfl
@[simp] theorem State.setTables_sense (s : State) (t : Tables) : (s.setTables t).sense = s.sense := rfl
@[simp] theorem State.setTables_camIn (s : State) (t : Tables) : (s.setTables t).camIn = s.camIn := rfl
@[simp] theorem State.setTables_ports (s : State) (t : Tables) : (s.setTables t).ports = s.ports := rfl
@[simp] theorem State.setTables_lastTaken (s : State) (t : Tables) : (s.setTables t).lastTaken = s.lastTaken := rfl
@[simp] theorem State.setTables_pending (s : State) (t : Tables) : (s.setTables t).pending = s.pending := rfl
@[simp] theorem State.setTables_lane (s : State) (t : Tables) (i : Cyl) : (s.setTables t).lane i = s.lane i := rfl
@[simp] theorem State.setTables_bank (s : State) (t : Tables) (i : Bank) : (s.setTables t).bank i = s.bank i := rfl
@[simp] theorem State.setTables_slot (s : State) (t : Tables) (i : Bank) : (s.setTables t).slot i = s.slot i := rfl
@[simp] theorem State.setTables_mailOf (s : State) (t : Tables) (i : Bank) : (s.setTables t).mailOf i = s.mailOf i := rfl
@[simp] theorem State.setTables_port (s : State) (t : Tables) (i : Port) : (s.setTables t).port i = s.port i := rfl
@[simp] theorem State.setTables_faultsOf (s : State) (t : Tables) (i : Cyl) : (s.setTables t).faultsOf i = s.faultsOf i := rfl
@[simp] theorem State.setTables_senseOf (s : State) (t : Tables) (i : Bank) : (s.setTables t).senseOf i = s.senseOf i := rfl

/-! ## `setService` -/

@[simp] theorem State.setService_now (s : State) (f : ServiceFunction) : (s.setService f).now = s.now := rfl
@[simp] theorem State.setService_tracker (s : State) (f : ServiceFunction) : (s.setService f).tracker = s.tracker := rfl
@[simp] theorem State.setService_syncToCycle (s : State) (f : ServiceFunction) : (s.setService f).syncToCycle = s.syncToCycle := rfl
@[simp] theorem State.setService_syncToTable (s : State) (f : ServiceFunction) : (s.setService f).syncToTable = s.syncToTable := rfl
@[simp] theorem State.setService_toothNotices (s : State) (f : ServiceFunction) : (s.setService f).toothNotices = s.toothNotices := rfl
@[simp] theorem State.setService_plan (s : State) (f : ServiceFunction) : (s.setService f).plan = s.plan := rfl
@[simp] theorem State.setService_tables (s : State) (f : ServiceFunction) : (s.setService f).tables = s.tables := rfl
@[simp] theorem State.setService_lanes (s : State) (f : ServiceFunction) : (s.setService f).lanes = s.lanes := rfl
@[simp] theorem State.setService_service (s : State) (f : ServiceFunction) : (s.setService f).service = f := rfl
@[simp] theorem State.setService_banks (s : State) (f : ServiceFunction) : (s.setService f).banks = s.banks := rfl
@[simp] theorem State.setService_slots (s : State) (f : ServiceFunction) : (s.setService f).slots = s.slots := rfl
@[simp] theorem State.setService_mail (s : State) (f : ServiceFunction) : (s.setService f).mail = s.mail := rfl
@[simp] theorem State.setService_faults (s : State) (f : ServiceFunction) : (s.setService f).faults = s.faults := rfl
@[simp] theorem State.setService_lowGates (s : State) (f : ServiceFunction) : (s.setService f).lowGates = s.lowGates := rfl
@[simp] theorem State.setService_sense (s : State) (f : ServiceFunction) : (s.setService f).sense = s.sense := rfl
@[simp] theorem State.setService_camIn (s : State) (f : ServiceFunction) : (s.setService f).camIn = s.camIn := rfl
@[simp] theorem State.setService_ports (s : State) (f : ServiceFunction) : (s.setService f).ports = s.ports := rfl
@[simp] theorem State.setService_lastTaken (s : State) (f : ServiceFunction) : (s.setService f).lastTaken = s.lastTaken := rfl
@[simp] theorem State.setService_pending (s : State) (f : ServiceFunction) : (s.setService f).pending = s.pending := rfl
@[simp] theorem State.setService_lane (s : State) (f : ServiceFunction) (i : Cyl) : (s.setService f).lane i = s.lane i := rfl
@[simp] theorem State.setService_bank (s : State) (f : ServiceFunction) (i : Bank) : (s.setService f).bank i = s.bank i := rfl
@[simp] theorem State.setService_slot (s : State) (f : ServiceFunction) (i : Bank) : (s.setService f).slot i = s.slot i := rfl
@[simp] theorem State.setService_mailOf (s : State) (f : ServiceFunction) (i : Bank) : (s.setService f).mailOf i = s.mailOf i := rfl
@[simp] theorem State.setService_port (s : State) (f : ServiceFunction) (i : Port) : (s.setService f).port i = s.port i := rfl
@[simp] theorem State.setService_faultsOf (s : State) (f : ServiceFunction) (i : Cyl) : (s.setService f).faultsOf i = s.faultsOf i := rfl
@[simp] theorem State.setService_senseOf (s : State) (f : ServiceFunction) (i : Bank) : (s.setService f).senseOf i = s.senseOf i := rfl

/-! ## States with equal fields -/

/-- Two states are equal if each field is. -/
theorem State.eq_of {s t : State}
    (now : s.now = t.now) (tracker : s.tracker = t.tracker) (syncToCycle : s.syncToCycle = t.syncToCycle)
    (syncToTable : s.syncToTable = t.syncToTable) (toothNotices : s.toothNotices = t.toothNotices) (plan : s.plan = t.plan)
    (tables : s.tables = t.tables) (lanes : s.lanes = t.lanes) (service : s.service = t.service)
    (banks : s.banks = t.banks) (slots : s.slots = t.slots) (mail : s.mail = t.mail)
    (faults : s.faults = t.faults) (lowGates : s.lowGates = t.lowGates) (sense : s.sense = t.sense)
    (camIn : s.camIn = t.camIn) (ports : s.ports = t.ports) (lastTaken : s.lastTaken = t.lastTaken)
    (pending : s.pending = t.pending) :
    s = t := by
  cases s; cases t; simp_all

end Sys2Proof.Machine
end

