-- ==== Sys2Proof/Laws/Tables.lean ====
section
/-! SUPPORT. Reading after writing in the tables indexed by cylinder, index, port and kind, and in the parts of State that
are such tables. -/

namespace Sys2Proof

@[simp] theorem PerCyl.get_fill {α : Type} (a : α) (i : Cyl) : (PerCyl.fill a).get i = a := by cases i <;> rfl

@[simp] theorem PerCyl.get_set_self {α : Type} (v : PerCyl α) (i : Cyl) (a : α) : (v.set i a).get i = a := by cases i <;> rfl

theorem PerCyl.get_set_ne {α : Type} (v : PerCyl α) {i j : Cyl} (h : j ≠ i) (a : α) : (v.set i a).get j = v.get j := by
  cases i <;> cases j <;> first | rfl | exact absurd rfl h

theorem PerCyl.get_set {α : Type} (v : PerCyl α) (i j : Cyl) (a : α) :
    (v.set i a).get j = if j = i then a else v.get j := by
  split
  · subst_vars; exact v.get_set_self _ a
  · exact v.get_set_ne ‹_› a

theorem PerCyl.ext_get {α : Type} {v w : PerCyl α} (h : ∀ i, v.get i = w.get i) : v = w := by
  cases v; cases w
  simp only [PerCyl.mk.injEq]
  exact ⟨h .c1, h .c2, h .c3, h .c4, h .c5, h .c6, h .c7, h .c8⟩

@[simp] theorem PerCyl.set_get_self {α : Type} (v : PerCyl α) (i : Cyl) : v.set i (v.get i) = v := by cases i <;> rfl

@[simp] theorem PerCyl.set_set {α : Type} (v : PerCyl α) (i : Cyl) (a b : α) : (v.set i a).set i b = v.set i b := by
  cases i <;> rfl

@[simp] theorem Quad.get_fill {α : Type} (a : α) (i : Four) : (Quad.fill a).get i = a := by cases i <;> rfl

@[simp] theorem Quad.get_set_self {α : Type} (v : Quad α) (i : Four) (a : α) : (v.set i a).get i = a := by cases i <;> rfl

theorem Quad.get_set_ne {α : Type} (v : Quad α) {i j : Four} (h : j ≠ i) (a : α) : (v.set i a).get j = v.get j := by
  cases i <;> cases j <;> first | rfl | exact absurd rfl h

theorem Quad.get_set {α : Type} (v : Quad α) (i j : Four) (a : α) :
    (v.set i a).get j = if j = i then a else v.get j := by
  split
  · subst_vars; exact v.get_set_self _ a
  · exact v.get_set_ne ‹_› a

theorem Quad.ext_get {α : Type} {v w : Quad α} (h : ∀ i, v.get i = w.get i) : v = w := by
  cases v; cases w
  simp only [Quad.mk.injEq]
  exact ⟨h .i0, h .i1, h .i2, h .i3⟩

@[simp] theorem Quad.set_get_self {α : Type} (v : Quad α) (i : Four) : v.set i (v.get i) = v := by cases i <;> rfl

@[simp] theorem Quad.set_set {α : Type} (v : Quad α) (i : Four) (a b : α) : (v.set i a).set i b = v.set i b := by
  cases i <;> rfl

@[simp] theorem PerPort.get_fill {α : Type} (a : α) (i : Port) : (PerPort.fill a).get i = a := by cases i <;> rfl

@[simp] theorem PerPort.get_set_self {α : Type} (v : PerPort α) (i : Port) (a : α) : (v.set i a).get i = a := by cases i <;> rfl

theorem PerPort.get_set_ne {α : Type} (v : PerPort α) {i j : Port} (h : j ≠ i) (a : α) : (v.set i a).get j = v.get j := by
  cases i <;> cases j <;> first | rfl | exact absurd rfl h

theorem PerPort.get_set {α : Type} (v : PerPort α) (i j : Port) (a : α) :
    (v.set i a).get j = if j = i then a else v.get j := by
  split
  · subst_vars; exact v.get_set_self _ a
  · exact v.get_set_ne ‹_› a

theorem PerPort.ext_get {α : Type} {v w : PerPort α} (h : ∀ i, v.get i = w.get i) : v = w := by
  cases v; cases w
  simp only [PerPort.mk.injEq]
  exact ⟨h .a, h .b⟩

@[simp] theorem PerPort.set_get_self {α : Type} (v : PerPort α) (i : Port) : v.set i (v.get i) = v := by cases i <;> rfl

@[simp] theorem PerPort.set_set {α : Type} (v : PerPort α) (i : Port) (a b : α) : (v.set i a).set i b = v.set i b := by
  cases i <;> rfl

@[simp] theorem PerKind.get_fill {α : Type} (a : α) (i : Kind) : (PerKind.fill a).get i = a := by cases i <;> rfl

@[simp] theorem PerKind.get_set_self {α : Type} (v : PerKind α) (i : Kind) (a : α) : (v.set i a).get i = a := by cases i <;> rfl

theorem PerKind.get_set_ne {α : Type} (v : PerKind α) {i j : Kind} (h : j ≠ i) (a : α) : (v.set i a).get j = v.get j := by
  cases i <;> cases j <;> first | rfl | exact absurd rfl h

theorem PerKind.get_set {α : Type} (v : PerKind α) (i j : Kind) (a : α) :
    (v.set i a).get j = if j = i then a else v.get j := by
  split
  · subst_vars; exact v.get_set_self _ a
  · exact v.get_set_ne ‹_› a

theorem PerKind.ext_get {α : Type} {v w : PerKind α} (h : ∀ i, v.get i = w.get i) : v = w := by
  cases v; cases w
  simp only [PerKind.mk.injEq]
  exact ⟨h .main, h .pilot, h .after, h .post⟩

@[simp] theorem PerKind.set_get_self {α : Type} (v : PerKind α) (i : Kind) : v.set i (v.get i) = v := by cases i <;> rfl

@[simp] theorem PerKind.set_set {α : Type} (v : PerKind α) (i : Kind) (a b : α) : (v.set i a).set i b = v.set i b := by
  cases i <;> rfl

end Sys2Proof

namespace Sys2Proof.Machine

@[simp] theorem State.lane_setLane_self (s : State) (i : Cyl) (x : Lane) : (s.setLane i x).lane i = x :=
  s.lanes.get_set_self i x

theorem State.lane_setLane_ne (s : State) {i j : Cyl} (h : j ≠ i) (x : Lane) : (s.setLane i x).lane j = s.lane j :=
  s.lanes.get_set_ne h x

theorem State.lane_setLane (s : State) (i j : Cyl) (x : Lane) : (s.setLane i x).lane j = if j = i then x else s.lane j :=
  s.lanes.get_set i j x

@[simp] theorem State.setLane_setLane (s : State) (i : Cyl) (x y : Lane) : (s.setLane i x).setLane i y = s.setLane i y := by
  simp [State.setLane]

@[simp] theorem State.bank_setBank_self (s : State) (i : Bank) (x : BankRecord) : (s.setBank i x).bank i = x :=
  s.banks.get_set_self i x

theorem State.bank_setBank_ne (s : State) {i j : Bank} (h : j ≠ i) (x : BankRecord) : (s.setBank i x).bank j = s.bank j :=
  s.banks.get_set_ne h x

theorem State.bank_setBank (s : State) (i j : Bank) (x : BankRecord) : (s.setBank i x).bank j = if j = i then x else s.bank j :=
  s.banks.get_set i j x

@[simp] theorem State.setBank_setBank (s : State) (i : Bank) (x y : BankRecord) : (s.setBank i x).setBank i y = s.setBank i y := by
  simp [State.setBank]

@[simp] theorem State.slot_setSlot_self (s : State) (i : Bank) (x : DriveSlot) : (s.setSlot i x).slot i = x :=
  s.slots.get_set_self i x

theorem State.slot_setSlot_ne (s : State) {i j : Bank} (h : j ≠ i) (x : DriveSlot) : (s.setSlot i x).slot j = s.slot j :=
  s.slots.get_set_ne h x

theorem State.slot_setSlot (s : State) (i j : Bank) (x : DriveSlot) : (s.setSlot i x).slot j = if j = i then x else s.slot j :=
  s.slots.get_set i j x

@[simp] theorem State.setSlot_setSlot (s : State) (i : Bank) (x y : DriveSlot) : (s.setSlot i x).setSlot i y = s.setSlot i y := by
  simp [State.setSlot]

@[simp] theorem State.mailOf_setMail_self (s : State) (i : Bank) (x : SlotMail) : (s.setMail i x).mailOf i = x :=
  s.mail.get_set_self i x

theorem State.mailOf_setMail_ne (s : State) {i j : Bank} (h : j ≠ i) (x : SlotMail) : (s.setMail i x).mailOf j = s.mailOf j :=
  s.mail.get_set_ne h x

theorem State.mailOf_setMail (s : State) (i j : Bank) (x : SlotMail) : (s.setMail i x).mailOf j = if j = i then x else s.mailOf j :=
  s.mail.get_set i j x

@[simp] theorem State.setMail_setMail (s : State) (i : Bank) (x y : SlotMail) : (s.setMail i x).setMail i y = s.setMail i y := by
  simp [State.setMail]

@[simp] theorem State.port_setPort_self (s : State) (i : Port) (x : PortState) : (s.setPort i x).port i = x :=
  s.ports.get_set_self i x

theorem State.port_setPort_ne (s : State) {i j : Port} (h : j ≠ i) (x : PortState) : (s.setPort i x).port j = s.port j :=
  s.ports.get_set_ne h x

theorem State.port_setPort (s : State) (i j : Port) (x : PortState) : (s.setPort i x).port j = if j = i then x else s.port j :=
  s.ports.get_set i j x

@[simp] theorem State.setPort_setPort (s : State) (i : Port) (x y : PortState) : (s.setPort i x).setPort i y = s.setPort i y := by
  simp [State.setPort]

@[simp] theorem State.faultsOf_setFaults_self (s : State) (i : Cyl) (x : CylinderFaults) : (s.setFaults i x).faultsOf i = x :=
  s.faults.get_set_self i x

theorem State.faultsOf_setFaults_ne (s : State) {i j : Cyl} (h : j ≠ i) (x : CylinderFaults) : (s.setFaults i x).faultsOf j = s.faultsOf j :=
  s.faults.get_set_ne h x

theorem State.faultsOf_setFaults (s : State) (i j : Cyl) (x : CylinderFaults) : (s.setFaults i x).faultsOf j = if j = i then x else s.faultsOf j :=
  s.faults.get_set i j x

@[simp] theorem State.setFaults_setFaults (s : State) (i : Cyl) (x y : CylinderFaults) : (s.setFaults i x).setFaults i y = s.setFaults i y := by
  simp [State.setFaults]

@[simp] theorem State.senseOf_setSense_self (s : State) (i : Bank) (x : Sense) : (s.setSense i x).senseOf i = x :=
  s.sense.get_set_self i x

theorem State.senseOf_setSense_ne (s : State) {i j : Bank} (h : j ≠ i) (x : Sense) : (s.setSense i x).senseOf j = s.senseOf j :=
  s.sense.get_set_ne h x

theorem State.senseOf_setSense (s : State) (i j : Bank) (x : Sense) : (s.setSense i x).senseOf j = if j = i then x else s.senseOf j :=
  s.sense.get_set i j x

@[simp] theorem State.setSense_setSense (s : State) (i : Bank) (x y : Sense) : (s.setSense i x).setSense i y = s.setSense i y := by
  simp [State.setSense]

end Sys2Proof.Machine
end

