-- ==== Sys2Proof/Laws/Flags.lean ====
section
/-! SUPPORT. What raising flags does: to the fields of State, and as the relation `Raised` of the statements. -/

namespace Sys2Proof.Machine

/-! ## `raise`: only ports change -/

@[simp] theorem State.raise_now (s : State) (p : Port) (f : Flag) : (s.raise p f).now = s.now := rfl
@[simp] theorem State.raise_tracker (s : State) (p : Port) (f : Flag) : (s.raise p f).tracker = s.tracker := rfl
@[simp] theorem State.raise_syncToCycle (s : State) (p : Port) (f : Flag) : (s.raise p f).syncToCycle = s.syncToCycle := rfl
@[simp] theorem State.raise_syncToTable (s : State) (p : Port) (f : Flag) : (s.raise p f).syncToTable = s.syncToTable := rfl
@[simp] theorem State.raise_toothNotices (s : State) (p : Port) (f : Flag) : (s.raise p f).toothNotices = s.toothNotices := rfl
@[simp] theorem State.raise_plan (s : State) (p : Port) (f : Flag) : (s.raise p f).plan = s.plan := rfl
@[simp] theorem State.raise_tables (s : State) (p : Port) (f : Flag) : (s.raise p f).tables = s.tables := rfl
@[simp] theorem State.raise_lanes (s : State) (p : Port) (f : Flag) : (s.raise p f).lanes = s.lanes := rfl
@[simp] theorem State.raise_service (s : State) (p : Port) (f : Flag) : (s.raise p f).service = s.service := rfl
@[simp] theorem State.raise_banks (s : State) (p : Port) (f : Flag) : (s.raise p f).banks = s.banks := rfl
@[simp] theorem State.raise_slots (s : State) (p : Port) (f : Flag) : (s.raise p f).slots = s.slots := rfl
@[simp] theorem State.raise_mail (s : State) (p : Port) (f : Flag) : (s.raise p f).mail = s.mail := rfl
@[simp] theorem State.raise_faults (s : State) (p : Port) (f : Flag) : (s.raise p f).faults = s.faults := rfl
@[simp] theorem State.raise_lowGates (s : State) (p : Port) (f : Flag) : (s.raise p f).lowGates = s.lowGates := rfl
@[simp] theorem State.raise_sense (s : State) (p : Port) (f : Flag) : (s.raise p f).sense = s.sense := rfl
@[simp] theorem State.raise_camIn (s : State) (p : Port) (f : Flag) : (s.raise p f).camIn = s.camIn := rfl
@[simp] theorem State.raise_lastTaken (s : State) (p : Port) (f : Flag) : (s.raise p f).lastTaken = s.lastTaken := rfl
@[simp] theorem State.raise_pending (s : State) (p : Port) (f : Flag) : (s.raise p f).pending = s.pending := rfl
@[simp] theorem State.raise_lane (s : State) (p : Port) (f : Flag) (i : Cyl) : (s.raise p f).lane i = s.lane i := by
  simp [State.lane]
@[simp] theorem State.raise_bank (s : State) (p : Port) (f : Flag) (i : Bank) : (s.raise p f).bank i = s.bank i := by
  simp [State.bank]
@[simp] theorem State.raise_slot (s : State) (p : Port) (f : Flag) (i : Bank) : (s.raise p f).slot i = s.slot i := by
  simp [State.slot]
@[simp] theorem State.raise_mailOf (s : State) (p : Port) (f : Flag) (i : Bank) : (s.raise p f).mailOf i = s.mailOf i := by
  simp [State.mailOf]
@[simp] theorem State.raise_faultsOf (s : State) (p : Port) (f : Flag) (i : Cyl) : (s.raise p f).faultsOf i = s.faultsOf i := by
  simp [State.faultsOf]
@[simp] theorem State.raise_senseOf (s : State) (p : Port) (f : Flag) (i : Bank) : (s.raise p f).senseOf i = s.senseOf i := by
  simp [State.senseOf]

/-! ## `raiseBoth`: only ports change -/

@[simp] theorem State.raiseBoth_now (s : State) (f : Flag) : (s.raiseBoth f).now = s.now := rfl
@[simp] theorem State.raiseBoth_tracker (s : State) (f : Flag) : (s.raiseBoth f).tracker = s.tracker := rfl
@[simp] theorem State.raiseBoth_syncToCycle (s : State) (f : Flag) : (s.raiseBoth f).syncToCycle = s.syncToCycle := rfl
@[simp] theorem State.raiseBoth_syncToTable (s : State) (f : Flag) : (s.raiseBoth f).syncToTable = s.syncToTable := rfl
@[simp] theorem State.raiseBoth_toothNotices (s : State) (f : Flag) : (s.raiseBoth f).toothNotices = s.toothNotices := rfl
@[simp] theorem State.raiseBoth_plan (s : State) (f : Flag) : (s.raiseBoth f).plan = s.plan := rfl
@[simp] theorem State.raiseBoth_tables (s : State) (f : Flag) : (s.raiseBoth f).tables = s.tables := rfl
@[simp] theorem State.raiseBoth_lanes (s : State) (f : Flag) : (s.raiseBoth f).lanes = s.lanes := rfl
@[simp] theorem State.raiseBoth_service (s : State) (f : Flag) : (s.raiseBoth f).service = s.service := rfl
@[simp] theorem State.raiseBoth_banks (s : State) (f : Flag) : (s.raiseBoth f).banks = s.banks := rfl
@[simp] theorem State.raiseBoth_slots (s : State) (f : Flag) : (s.raiseBoth f).slots = s.slots := rfl
@[simp] theorem State.raiseBoth_mail (s : State) (f : Flag) : (s.raiseBoth f).mail = s.mail := rfl
@[simp] theorem State.raiseBoth_faults (s : State) (f : Flag) : (s.raiseBoth f).faults = s.faults := rfl
@[simp] theorem State.raiseBoth_lowGates (s : State) (f : Flag) : (s.raiseBoth f).lowGates = s.lowGates := rfl
@[simp] theorem State.raiseBoth_sense (s : State) (f : Flag) : (s.raiseBoth f).sense = s.sense := rfl
@[simp] theorem State.raiseBoth_camIn (s : State) (f : Flag) : (s.raiseBoth f).camIn = s.camIn := rfl
@[simp] theorem State.raiseBoth_lastTaken (s : State) (f : Flag) : (s.raiseBoth f).lastTaken = s.lastTaken := rfl
@[simp] theorem State.raiseBoth_pending (s : State) (f : Flag) : (s.raiseBoth f).pending = s.pending := rfl
@[simp] theorem State.raiseBoth_lane (s : State) (f : Flag) (i : Cyl) : (s.raiseBoth f).lane i = s.lane i := by
  simp [State.lane]
@[simp] theorem State.raiseBoth_bank (s : State) (f : Flag) (i : Bank) : (s.raiseBoth f).bank i = s.bank i := by
  simp [State.bank]
@[simp] theorem State.raiseBoth_slot (s : State) (f : Flag) (i : Bank) : (s.raiseBoth f).slot i = s.slot i := by
  simp [State.slot]
@[simp] theorem State.raiseBoth_mailOf (s : State) (f : Flag) (i : Bank) : (s.raiseBoth f).mailOf i = s.mailOf i := by
  simp [State.mailOf]
@[simp] theorem State.raiseBoth_faultsOf (s : State) (f : Flag) (i : Cyl) : (s.raiseBoth f).faultsOf i = s.faultsOf i := by
  simp [State.faultsOf]
@[simp] theorem State.raiseBoth_senseOf (s : State) (f : Flag) (i : Bank) : (s.raiseBoth f).senseOf i = s.senseOf i := by
  simp [State.senseOf]

/-! ## `raiseIf`: only ports change -/

@[simp] theorem State.raiseIf_now (s : State) (on : Bool) (p : Port) (f : Flag) : (s.raiseIf on p f).now = s.now := by cases on <;> rfl
@[simp] theorem State.raiseIf_tracker (s : State) (on : Bool) (p : Port) (f : Flag) : (s.raiseIf on p f).tracker = s.tracker := by cases on <;> rfl
@[simp] theorem State.raiseIf_syncToCycle (s : State) (on : Bool) (p : Port) (f : Flag) : (s.raiseIf on p f).syncToCycle = s.syncToCycle := by cases on <;> rfl
@[simp] theorem State.raiseIf_syncToTable (s : State) (on : Bool) (p : Port) (f : Flag) : (s.raiseIf on p f).syncToTable = s.syncToTable := by cases on <;> rfl
@[simp] theorem State.raiseIf_toothNotices (s : State) (on : Bool) (p : Port) (f : Flag) : (s.raiseIf on p f).toothNotices = s.toothNotices := by cases on <;> rfl
@[simp] theorem State.raiseIf_plan (s : State) (on : Bool) (p : Port) (f : Flag) : (s.raiseIf on p f).plan = s.plan := by cases on <;> rfl
@[simp] theorem State.raiseIf_tables (s : State) (on : Bool) (p : Port) (f : Flag) : (s.raiseIf on p f).tables = s.tables := by cases on <;> rfl
@[simp] theorem State.raiseIf_lanes (s : State) (on : Bool) (p : Port) (f : Flag) : (s.raiseIf on p f).lanes = s.lanes := by cases on <;> rfl
@[simp] theorem State.raiseIf_service (s : State) (on : Bool) (p : Port) (f : Flag) : (s.raiseIf on p f).service = s.service := by cases on <;> rfl
@[simp] theorem State.raiseIf_banks (s : State) (on : Bool) (p : Port) (f : Flag) : (s.raiseIf on p f).banks = s.banks := by cases on <;> rfl
@[simp] theorem State.raiseIf_slots (s : State) (on : Bool) (p : Port) (f : Flag) : (s.raiseIf on p f).slots = s.slots := by cases on <;> rfl
@[simp] theorem State.raiseIf_mail (s : State) (on : Bool) (p : Port) (f : Flag) : (s.raiseIf on p f).mail = s.mail := by cases on <;> rfl
@[simp] theorem State.raiseIf_faults (s : State) (on : Bool) (p : Port) (f : Flag) : (s.raiseIf on p f).faults = s.faults := by cases on <;> rfl
@[simp] theorem State.raiseIf_lowGates (s : State) (on : Bool) (p : Port) (f : Flag) : (s.raiseIf on p f).lowGates = s.lowGates := by cases on <;> rfl
@[simp] theorem State.raiseIf_sense (s : State) (on : Bool) (p : Port) (f : Flag) : (s.raiseIf on p f).sense = s.sense := by cases on <;> rfl
@[simp] theorem State.raiseIf_camIn (s : State) (on : Bool) (p : Port) (f : Flag) : (s.raiseIf on p f).camIn = s.camIn := by cases on <;> rfl
@[simp] theorem State.raiseIf_lastTaken (s : State) (on : Bool) (p : Port) (f : Flag) : (s.raiseIf on p f).lastTaken = s.lastTaken := by cases on <;> rfl
@[simp] theorem State.raiseIf_pending (s : State) (on : Bool) (p : Port) (f : Flag) : (s.raiseIf on p f).pending = s.pending := by cases on <;> rfl
@[simp] theorem State.raiseIf_lane (s : State) (on : Bool) (p : Port) (f : Flag) (i : Cyl) : (s.raiseIf on p f).lane i = s.lane i := by
  simp [State.lane]
@[simp] theorem State.raiseIf_bank (s : State) (on : Bool) (p : Port) (f : Flag) (i : Bank) : (s.raiseIf on p f).bank i = s.bank i := by
  simp [State.bank]
@[simp] theorem State.raiseIf_slot (s : State) (on : Bool) (p : Port) (f : Flag) (i : Bank) : (s.raiseIf on p f).slot i = s.slot i := by
  simp [State.slot]
@[simp] theorem State.raiseIf_mailOf (s : State) (on : Bool) (p : Port) (f : Flag) (i : Bank) : (s.raiseIf on p f).mailOf i = s.mailOf i := by
  simp [State.mailOf]
@[simp] theorem State.raiseIf_faultsOf (s : State) (on : Bool) (p : Port) (f : Flag) (i : Cyl) : (s.raiseIf on p f).faultsOf i = s.faultsOf i := by
  simp [State.faultsOf]
@[simp] theorem State.raiseIf_senseOf (s : State) (on : Bool) (p : Port) (f : Flag) (i : Bank) : (s.raiseIf on p f).senseOf i = s.senseOf i := by
  simp [State.senseOf]

/-! ## `raiseBothIf`: only ports change -/

@[simp] theorem State.raiseBothIf_now (s : State) (on : Bool) (f : Flag) : (s.raiseBothIf on f).now = s.now := by cases on <;> rfl
@[simp] theorem State.raiseBothIf_tracker (s : State) (on : Bool) (f : Flag) : (s.raiseBothIf on f).tracker = s.tracker := by cases on <;> rfl
@[simp] theorem State.raiseBothIf_syncToCycle (s : State) (on : Bool) (f : Flag) : (s.raiseBothIf on f).syncToCycle = s.syncToCycle := by cases on <;> rfl
@[simp] theorem State.raiseBothIf_syncToTable (s : State) (on : Bool) (f : Flag) : (s.raiseBothIf on f).syncToTable = s.syncToTable := by cases on <;> rfl
@[simp] theorem State.raiseBothIf_toothNotices (s : State) (on : Bool) (f : Flag) : (s.raiseBothIf on f).toothNotices = s.toothNotices := by cases on <;> rfl
@[simp] theorem State.raiseBothIf_plan (s : State) (on : Bool) (f : Flag) : (s.raiseBothIf on f).plan = s.plan := by cases on <;> rfl
@[simp] theorem State.raiseBothIf_tables (s : State) (on : Bool) (f : Flag) : (s.raiseBothIf on f).tables = s.tables := by cases on <;> rfl
@[simp] theorem State.raiseBothIf_lanes (s : State) (on : Bool) (f : Flag) : (s.raiseBothIf on f).lanes = s.lanes := by cases on <;> rfl
@[simp] theorem State.raiseBothIf_service (s : State) (on : Bool) (f : Flag) : (s.raiseBothIf on f).service = s.service := by cases on <;> rfl
@[simp] theorem State.raiseBothIf_banks (s : State) (on : Bool) (f : Flag) : (s.raiseBothIf on f).banks = s.banks := by cases on <;> rfl
@[simp] theorem State.raiseBothIf_slots (s : State) (on : Bool) (f : Flag) : (s.raiseBothIf on f).slots = s.slots := by cases on <;> rfl
@[simp] theorem State.raiseBothIf_mail (s : State) (on : Bool) (f : Flag) : (s.raiseBothIf on f).mail = s.mail := by cases on <;> rfl
@[simp] theorem State.raiseBothIf_faults (s : State) (on : Bool) (f : Flag) : (s.raiseBothIf on f).faults = s.faults := by cases on <;> rfl
@[simp] theorem State.raiseBothIf_lowGates (s : State) (on : Bool) (f : Flag) : (s.raiseBothIf on f).lowGates = s.lowGates := by cases on <;> rfl
@[simp] theorem State.raiseBothIf_sense (s : State) (on : Bool) (f : Flag) : (s.raiseBothIf on f).sense = s.sense := by cases on <;> rfl
@[simp] theorem State.raiseBothIf_camIn (s : State) (on : Bool) (f : Flag) : (s.raiseBothIf on f).camIn = s.camIn := by cases on <;> rfl
@[simp] theorem State.raiseBothIf_lastTaken (s : State) (on : Bool) (f : Flag) : (s.raiseBothIf on f).lastTaken = s.lastTaken := by cases on <;> rfl
@[simp] theorem State.raiseBothIf_pending (s : State) (on : Bool) (f : Flag) : (s.raiseBothIf on f).pending = s.pending := by cases on <;> rfl
@[simp] theorem State.raiseBothIf_lane (s : State) (on : Bool) (f : Flag) (i : Cyl) : (s.raiseBothIf on f).lane i = s.lane i := by
  simp [State.lane]
@[simp] theorem State.raiseBothIf_bank (s : State) (on : Bool) (f : Flag) (i : Bank) : (s.raiseBothIf on f).bank i = s.bank i := by
  simp [State.bank]
@[simp] theorem State.raiseBothIf_slot (s : State) (on : Bool) (f : Flag) (i : Bank) : (s.raiseBothIf on f).slot i = s.slot i := by
  simp [State.slot]
@[simp] theorem State.raiseBothIf_mailOf (s : State) (on : Bool) (f : Flag) (i : Bank) : (s.raiseBothIf on f).mailOf i = s.mailOf i := by
  simp [State.mailOf]
@[simp] theorem State.raiseBothIf_faultsOf (s : State) (on : Bool) (f : Flag) (i : Cyl) : (s.raiseBothIf on f).faultsOf i = s.faultsOf i := by
  simp [State.faultsOf]
@[simp] theorem State.raiseBothIf_senseOf (s : State) (on : Bool) (f : Flag) (i : Bank) : (s.raiseBothIf on f).senseOf i = s.senseOf i := by
  simp [State.senseOf]

/-! ## `raiseOrigins`: only ports change -/

@[simp] theorem State.raiseOrigins_now (s : State) (f : Flag) (ps : List ArmedPulse) : (s.raiseOrigins f ps).now = s.now := by
  induction ps generalizing s with
  | nil => rfl
  | cons p ps ih => exact ih (s.raise p.merged.port f)

@[simp] theorem State.raiseOrigins_tracker (s : State) (f : Flag) (ps : List ArmedPulse) : (s.raiseOrigins f ps).tracker = s.tracker := by
  induction ps generalizing s with
  | nil => rfl
  | cons p ps ih => exact ih (s.raise p.merged.port f)

@[simp] theorem State.raiseOrigins_syncToCycle (s : State) (f : Flag) (ps : List ArmedPulse) : (s.raiseOrigins f ps).syncToCycle = s.syncToCycle := by
  induction ps generalizing s with
  | nil => rfl
  | cons p ps ih => exact ih (s.raise p.merged.port f)

@[simp] theorem State.raiseOrigins_syncToTable (s : State) (f : Flag) (ps : List ArmedPulse) : (s.raiseOrigins f ps).syncToTable = s.syncToTable := by
  induction ps generalizing s with
  | nil => rfl
  | cons p ps ih => exact ih (s.raise p.merged.port f)

@[simp] theorem State.raiseOrigins_toothNotices (s : State) (f : Flag) (ps : List ArmedPulse) : (s.raiseOrigins f ps).toothNotices = s.toothNotices := by
  induction ps generalizing s with
  | nil => rfl
  | cons p ps ih => exact ih (s.raise p.merged.port f)

@[simp] theorem State.raiseOrigins_plan (s : State) (f : Flag) (ps : List ArmedPulse) : (s.raiseOrigins f ps).plan = s.plan := by
  induction ps generalizing s with
  | nil => rfl
  | cons p ps ih => exact ih (s.raise p.merged.port f)

@[simp] theorem State.raiseOrigins_tables (s : State) (f : Flag) (ps : List ArmedPulse) : (s.raiseOrigins f ps).tables = s.tables := by
  induction ps generalizing s with
  | nil => rfl
  | cons p ps ih => exact ih (s.raise p.merged.port f)

@[simp] theorem State.raiseOrigins_lanes (s : State) (f : Flag) (ps : List ArmedPulse) : (s.raiseOrigins f ps).lanes = s.lanes := by
  induction ps generalizing s with
  | nil => rfl
  | cons p ps ih => exact ih (s.raise p.merged.port f)

@[simp] theorem State.raiseOrigins_service (s : State) (f : Flag) (ps : List ArmedPulse) : (s.raiseOrigins f ps).service = s.service := by
  induction ps generalizing s with
  | nil => rfl
  | cons p ps ih => exact ih (s.raise p.merged.port f)

@[simp] theorem State.raiseOrigins_banks (s : State) (f : Flag) (ps : List ArmedPulse) : (s.raiseOrigins f ps).banks = s.banks := by
  induction ps generalizing s with
  | nil => rfl
  | cons p ps ih => exact ih (s.raise p.merged.port f)

@[simp] theorem State.raiseOrigins_slots (s : State) (f : Flag) (ps : List ArmedPulse) : (s.raiseOrigins f ps).slots = s.slots := by
  induction ps generalizing s with
  | nil => rfl
  | cons p ps ih => exact ih (s.raise p.merged.port f)

@[simp] theorem State.raiseOrigins_mail (s : State) (f : Flag) (ps : List ArmedPulse) : (s.raiseOrigins f ps).mail = s.mail := by
  induction ps generalizing s with
  | nil => rfl
  | cons p ps ih => exact ih (s.raise p.merged.port f)

@[simp] theorem State.raiseOrigins_faults (s : State) (f : Flag) (ps : List ArmedPulse) : (s.raiseOrigins f ps).faults = s.faults := by
  induction ps generalizing s with
  | nil => rfl
  | cons p ps ih => exact ih (s.raise p.merged.port f)

@[simp] theorem State.raiseOrigins_lowGates (s : State) (f : Flag) (ps : List ArmedPulse) : (s.raiseOrigins f ps).lowGates = s.lowGates := by
  induction ps generalizing s with
  | nil => rfl
  | cons p ps ih => exact ih (s.raise p.merged.port f)

@[simp] theorem State.raiseOrigins_sense (s : State) (f : Flag) (ps : List ArmedPulse) : (s.raiseOrigins f ps).sense = s.sense := by
  induction ps generalizing s with
  | nil => rfl
  | cons p ps ih => exact ih (s.raise p.merged.port f)

@[simp] theorem State.raiseOrigins_camIn (s : State) (f : Flag) (ps : List ArmedPulse) : (s.raiseOrigins f ps).camIn = s.camIn := by
  induction ps generalizing s with
  | nil => rfl
  | cons p ps ih => exact ih (s.raise p.merged.port f)

@[simp] theorem State.raiseOrigins_lastTaken (s : State) (f : Flag) (ps : List ArmedPulse) : (s.raiseOrigins f ps).lastTaken = s.lastTaken := by
  induction ps generalizing s with
  | nil => rfl
  | cons p ps ih => exact ih (s.raise p.merged.port f)

@[simp] theorem State.raiseOrigins_pending (s : State) (f : Flag) (ps : List ArmedPulse) : (s.raiseOrigins f ps).pending = s.pending := by
  induction ps generalizing s with
  | nil => rfl
  | cons p ps ih => exact ih (s.raise p.merged.port f)

@[simp] theorem State.raiseOrigins_lane (s : State) (f : Flag) (ps : List ArmedPulse) (i : Cyl) : (s.raiseOrigins f ps).lane i = s.lane i := by
  simp [State.lane]
@[simp] theorem State.raiseOrigins_bank (s : State) (f : Flag) (ps : List ArmedPulse) (i : Bank) : (s.raiseOrigins f ps).bank i = s.bank i := by
  simp [State.bank]
@[simp] theorem State.raiseOrigins_slot (s : State) (f : Flag) (ps : List ArmedPulse) (i : Bank) : (s.raiseOrigins f ps).slot i = s.slot i := by
  simp [State.slot]
@[simp] theorem State.raiseOrigins_mailOf (s : State) (f : Flag) (ps : List ArmedPulse) (i : Bank) : (s.raiseOrigins f ps).mailOf i = s.mailOf i := by
  simp [State.mailOf]
@[simp] theorem State.raiseOrigins_faultsOf (s : State) (f : Flag) (ps : List ArmedPulse) (i : Cyl) : (s.raiseOrigins f ps).faultsOf i = s.faultsOf i := by
  simp [State.faultsOf]
@[simp] theorem State.raiseOrigins_senseOf (s : State) (f : Flag) (ps : List ArmedPulse) (i : Bank) : (s.raiseOrigins f ps).senseOf i = s.senseOf i := by
  simp [State.senseOf]

/-! ## `Raised` -/

/-- The sixteen flags are the sixteen bits of the flag word. -/
theorem flags_ext {v w : BitVec 16} (h : ∀ f : Flag, v.getLsbD f.bitNumber = w.getLsbD f.bitNumber) : v = w := by
  apply BitVec.eq_of_getLsbD_eq
  intro i hi
  have key : ∀ k < 16, ∃ f : Flag, f.bitNumber = k := by
    intro k hk
    interval_cases k
    exacts [⟨.syncChange, rfl⟩, ⟨.syncLost, rfl⟩, ⟨.toothError, rfl⟩, ⟨.phaseError, rfl⟩, ⟨.mergeExcluded, rfl⟩,
      ⟨.contribExpired, rfl⟩, ⟨.peerExpired, rfl⟩, ⟨.pulseDropped, rfl⟩, ⟨.pulseCut, rfl⟩, ⟨.pulseClipped, rfl⟩,
      ⟨.driverFault, rfl⟩, ⟨.cylIsolated, rfl⟩, ⟨.serviceDone, rfl⟩, ⟨.planChange, rfl⟩, ⟨.queueOverflow, rfl⟩,
      ⟨.badFrame, rfl⟩]
  obtain ⟨f, rfl⟩ := key i hi
  exact h f

theorem Flag.word_getLsbD (f g : Flag) : f.word.getLsbD g.bitNumber = decide (g = f) := by
  cases f <;> cases g <;> rfl

theorem raised_refl (s : State) : Raised s s noFlags := fun p => by simp [noFlags]

/-- States whose ports are alike raise nothing between them. -/
theorem raised_of_ports {s t : State} (h : t.ports = s.ports) : Raised s t noFlags := fun p => by
  simp [noFlags, State.port, h]

theorem raised_congr {s t : State} {on on' : Port → Flag → Bool} (h : Raised s t on) (e : ∀ p f, on p f = on' p f) :
    Raised s t on' := by
  have : on = on' := funext fun p => funext (e p)
  exact this ▸ h

/-- Raising in two steps. -/
theorem Raised.trans {s t u : State} {on on' : Port → Flag → Bool} (h : Raised s t on) (k : Raised t u on') :
    Raised s u fun p f => on p f || on' p f := by
  intro p
  obtain ⟨h1, h2, h3, h4⟩ := h p
  obtain ⟨k1, k2, k3, k4⟩ := k p
  have hm : (t.port p).mask = (s.port p).mask := by rw [h1]
  refine ⟨by rw [k1, h1], fun f => by rw [k2, h2, Bool.or_assoc], ?_, ?_⟩
  · rintro ⟨f, hf⟩
    by_cases e : ∃ f, on' p f = true
    · rw [k3 e, hm]
    · have e' : ∀ f, on' p f = false := fun f => by
        cases hx : on' p f
        · rfl
        · exact absurd ⟨f, hx⟩ e
      have hf' : on p f = true := by simpa [e' f] using hf
      have fl : (u.port p).flags = (t.port p).flags := flags_ext fun g => by rw [k2, e' g, Bool.or_false]
      rw [k4 e', h3 ⟨f, hf'⟩, fl]
  · intro e
    rw [k4 fun f => (Bool.or_eq_false_iff.1 (e f)).2, h4 fun f => (Bool.or_eq_false_iff.1 (e f)).1]

theorem raised_raise (s : State) (p : Port) (f : Flag) :
    Raised s (s.raise p f) fun q g => decide (q = p) && decide (g = f) := by
  intro q
  by_cases e : q = p
  · subst e
    refine ⟨by simp [State.raise, PortState.raise, PortState.withFlags], fun g => ?_, ?_, ?_⟩
    · simp [State.raise, PortState.raise, PortState.withFlags, Flag.word_getLsbD]
    · intro _
      simp [State.raise, PortState.raise, PortState.withFlags, attention]
    · intro h
      simpa using h f
  · have : (s.raise p f).port q = s.port q := State.port_setPort_ne s e _
    simp [this, e]

theorem raised_raiseBoth (s : State) (f : Flag) : Raised s (s.raiseBoth f) (flagBoth f) :=
  raised_congr ((raised_raise s .a f).trans (raised_raise _ .b f)) fun p g => by cases p <;> simp [flagBoth]

theorem raised_raiseIf (s : State) (on : Bool) (p : Port) (f : Flag) :
    Raised s (s.raiseIf on p f) fun q g => on && (decide (q = p) && decide (g = f)) := by
  cases on
  · exact raised_congr (raised_refl s) fun _ _ => rfl
  · exact raised_congr (raised_raise s p f) fun _ _ => rfl

theorem raised_raiseBothIf (s : State) (on : Bool) (f : Flag) :
    Raised s (s.raiseBothIf on f) fun q g => on && flagBoth f q g := by
  cases on
  · exact raised_congr (raised_refl s) fun _ _ => rfl
  · exact raised_congr (raised_raiseBoth s f) fun _ _ => rfl

theorem raised_raiseOrigins (s : State) (f : Flag) (ps : List ArmedPulse) :
    Raised s (s.raiseOrigins f ps) fun q g => decide (g = f) && ps.any fun p => decide (p.merged.port = q) := by
  induction ps generalizing s with
  | nil => exact raised_congr (raised_refl s) fun _ _ => by simp [noFlags]
  | cons p ps ih =>
    refine raised_congr ((raised_raise s p.merged.port f).trans (ih (s.raise p.merged.port f))) fun q g => ?_
    by_cases hq : q = p.merged.port
    · subst hq; by_cases hg : g = f <;> simp [hg]
    · have hq' : ¬p.merged.port = q := fun e => hq e.symm
      simp [hq, hq']

/-! ## Ports keep their law when flags are raised -/

theorem PortLaw.withFlags {q : PortState} (h : PortLaw q) (w : BitVec 16) : PortLaw (q.withFlags w) := by
  obtain ⟨h1, h2, h3, h4, h5, h6, h7, -, h9⟩ := h
  exact ⟨h1, h2, h3, h4, h5, h6, h7, by simp [PortState.withFlags, attention], h9⟩

theorem portLaw_raise {s : State} (h : ∀ p, PortLaw (s.port p)) (p : Port) (f : Flag) :
    ∀ q, PortLaw ((s.raise p f).port q) := by
  intro q
  by_cases e : q = p
  · subst e; simpa [State.raise, PortState.raise] using (h q).withFlags _
  · simpa [State.raise, State.port_setPort_ne _ e] using h q

theorem portLaw_raiseBoth {s : State} (h : ∀ p, PortLaw (s.port p)) (f : Flag) : ∀ q, PortLaw ((s.raiseBoth f).port q) :=
  portLaw_raise (portLaw_raise h .a f) .b f

theorem portLaw_raiseIf {s : State} (h : ∀ p, PortLaw (s.port p)) (on : Bool) (p : Port) (f : Flag) :
    ∀ q, PortLaw ((s.raiseIf on p f).port q) := by
  cases on
  · exact h
  · exact portLaw_raise h p f

theorem portLaw_raiseBothIf {s : State} (h : ∀ p, PortLaw (s.port p)) (on : Bool) (f : Flag) :
    ∀ q, PortLaw ((s.raiseBothIf on f).port q) := by
  cases on
  · exact h
  · exact portLaw_raiseBoth h f

theorem portLaw_raiseOrigins {s : State} (h : ∀ p, PortLaw (s.port p)) (f : Flag) (ps : List ArmedPulse) :
    ∀ q, PortLaw ((s.raiseOrigins f ps).port q) := by
  induction ps generalizing s with
  | nil => exact h
  | cons p ps ih => exact ih (portLaw_raise h p.merged.port f)

end Sys2Proof.Machine
end

