-- ==== Sys2Proof/Laws/Tracker.lean ====
section
/-! SUPPORT. The tracker's Booleans as the propositions of the statements, and what a tooth arrival, a stall and a load of the
working copy can do. -/

namespace Sys2Proof.Machine

theorem Tracker.gapLike_iff (t : Tracker) (p : Nat) : t.gapLike p = true ↔ GapLike t p := by
  unfold Tracker.gapLike GapLike
  cases t.copy <;> simp

theorem Tracker.gapLike_false_iff (t : Tracker) (p : Nat) : t.gapLike p = false ↔ ¬GapLike t p := by
  rw [← t.gapLike_iff, Bool.not_eq_true]

theorem Tracker.phaseKnown_iff (t : Tracker) : t.phaseKnown = true ↔ PhaseKnown t := by
  unfold Tracker.phaseKnown PhaseKnown
  cases t.sync <;> simp

theorem Tracker.indexHeld_iff (t : Tracker) : t.indexHeld = true ↔ Synced t := by
  unfold Tracker.indexHeld Synced
  cases t.sync <;> simp

theorem Tracker.gapDue_iff (t : Tracker) :
    t.gapDue = true ↔ ∃ w, t.copy = some w ∧ t.tooth = w.teeth - w.missing - 1 := by
  unfold Tracker.gapDue WorkingCopy.lastIndex
  cases t.copy <;> simp

/-! ## Points -/

theorem SyncNotice.losesPhase_iff (n : SyncNotice) : n.losesPhase = true ↔ LosesPhase n := by
  simp [SyncNotice.losesPhase, LosesPhase]

@[simp] theorem cyl_mem_all (c : Cyl) : c ∈ Cyl.all := by cases c <;> decide

theorem WorkingCopy.mem_cylinders {w : WorkingCopy} {c : Cyl} : c ∈ w.cylinders ↔ c.num ≤ w.count := by
  simp [WorkingCopy.cylinders, cyl_mem_all]

/-- What the tracker watches: next arming points, and start points of PENDING pulses of current records (R22, R23). -/
theorem State.mem_watched {s : State} {q : Nat} : q ∈ s.watched ↔
    (∃ w c, s.tracker.copy = some w ∧ c.num ≤ w.count ∧ s.tracker.nextArming w c = q) ∨
      ∃ c r, (s.lane c).current = some r ∧ ∃ p ∈ r.pulses, p.state = .pending ∧ r.startPos p = q := by
  simp only [State.watched, List.mem_append, List.mem_flatMap, cyl_mem_all, true_and]
  refine or_congr ?_ (exists_congr fun c => ?_)
  · cases s.tracker.copy <;> simp [WorkingCopy.mem_cylinders]
  · cases (s.lane c).current <;> simp [and_assoc]

theorem State.noLossWaiting_iff (s : State) : s.noLossWaiting = true ↔ ∀ n ∈ s.syncToCycle, ¬LosesPhase n := by
  simp [State.noLossWaiting, ← SyncNotice.losesPhase_iff]

theorem State.armingInCourse_iff (s : State) : s.armingInCourse = true ↔ ∃ c, (s.lane c).arming ≠ none := by
  simp [State.armingInCourse, cyl_mem_all, Option.isSome_iff_ne_none]

theorem State.pointsOwed_iff (s : State) : s.pointsOwed = true ↔ PointsOwed s s.now := by
  simp only [State.pointsOwed, PointsOwed, Bool.or_eq_true, List.any_eq_true, decide_eq_true_eq, State.mem_watched,
    State.armingInCourse_iff, ← or_assoc]
  refine or_congr_left ?_
  constructor
  · rintro ⟨q, ⟨w, c, h1, h2, rfl⟩ | ⟨c, r, h1, p, h2, h3, rfl⟩, h⟩
    · exact .inl ⟨w, c, h1, h2, h⟩
    · exact .inr ⟨c, r, h1, p, h2, h3, h⟩
  · rintro (⟨w, c, h1, h2, h⟩ | ⟨c, r, h1, p, h2, h3, h⟩)
    · exact ⟨_, .inl ⟨w, c, h1, h2, rfl⟩, h⟩
    · exact ⟨_, .inr ⟨c, r, h1, p, h2, h3, rfl⟩, h⟩

theorem State.jumpWaits_false_iff (s : State) (pos : Nat) : s.jumpWaits pos = false ↔
    ∀ c a, (s.lane c).arming = some a → a.loss = none →
      ∀ j ∈ s.tracker.marks.jumps, ¬(j.start < a.pos ∧ a.pos < pos ∧ pos ≤ j.stop) := by
  simp only [State.jumpWaits, List.any_eq_false, cyl_mem_all, forall_const]
  refine forall_congr' fun c => ?_
  cases (s.lane c).arming <;> simp [Jump.holdsBoth]

/-- When a point is at hand (R22, R23, R24). -/
theorem State.pointReached_iff (s : State) (pos : Nat) : s.pointReached pos = true ↔ PointAtHand s s.now pos := by
  simp only [State.pointReached, PointAtHand, Bool.and_eq_true, decide_eq_true_eq, Bool.not_eq_true',
    State.jumpWaits_false_iff, Tracker.phaseKnown_iff, State.noLossWaiting_iff, List.all_eq_true, State.mem_watched,
    and_assoc]
  refine and_congr_right fun _ => and_congr_right fun _ => and_congr_right fun _ => ?_
  rw [← and_assoc]
  refine and_congr_left fun _ => ?_
  constructor
  · intro h
    exact ⟨fun w c h1 h2 => h _ (.inl ⟨w, c, h1, h2, rfl⟩), fun c r h1 p h2 h3 => h _ (.inr ⟨c, r, h1, p, h2, h3, rfl⟩)⟩
  · rintro ⟨h, k⟩ q (⟨w, c, h1, h2, rfl⟩ | ⟨c, r, h1, p, h2, h3, rfl⟩)
    · exact h w c h1 h2
    · exact k c r h1 p h2 h3

theorem State.advance_pointReached_iff (s : State) (dt pos : Nat) :
    (s.advance dt).pointReached pos = true ↔ PointAtHand s (s.now + dt) pos :=
  (s.advance dt).pointReached_iff pos

/-! ## `trackerBecomes` -/

theorem lostSync_iff (old new : Tracker) :
    lostSync old new = true ↔ (Synced old ∧ ¬Synced new) ∨ (PhaseKnown old ∧ ¬PhaseKnown new) := by
  simp [lostSync, ← Tracker.indexHeld_iff, ← Tracker.phaseKnown_iff]

@[simp] theorem State.trackerBecomes_tracker (s : State) (new : Tracker) : (s.trackerBecomes new).tracker = new := by
  simp only [State.trackerBecomes]
  split <;> simp

/-- Without a change of sync state only the tracker changes. -/
theorem State.trackerBecomes_same {s : State} {new : Tracker} (h : s.tracker.sync = new.sync) :
    s.trackerBecomes new = s.setTracker new := by
  simp [State.trackerBecomes, h]

@[simp] theorem State.trackerBecomes_now (s : State) (new : Tracker) : (s.trackerBecomes new).now = s.now := by
  simp only [State.trackerBecomes]; split <;> simp

@[simp] theorem State.trackerBecomes_toothNotices (s : State) (new : Tracker) : (s.trackerBecomes new).toothNotices = s.toothNotices := by
  simp only [State.trackerBecomes]; split <;> simp

@[simp] theorem State.trackerBecomes_plan (s : State) (new : Tracker) : (s.trackerBecomes new).plan = s.plan := by
  simp only [State.trackerBecomes]; split <;> simp

@[simp] theorem State.trackerBecomes_tables (s : State) (new : Tracker) : (s.trackerBecomes new).tables = s.tables := by
  simp only [State.trackerBecomes]; split <;> simp

@[simp] theorem State.trackerBecomes_lanes (s : State) (new : Tracker) : (s.trackerBecomes new).lanes = s.lanes := by
  simp only [State.trackerBecomes]; split <;> simp

@[simp] theorem State.trackerBecomes_service (s : State) (new : Tracker) : (s.trackerBecomes new).service = s.service := by
  simp only [State.trackerBecomes]; split <;> simp

@[simp] theorem State.trackerBecomes_banks (s : State) (new : Tracker) : (s.trackerBecomes new).banks = s.banks := by
  simp only [State.trackerBecomes]; split <;> simp

@[simp] theorem State.trackerBecomes_slots (s : State) (new : Tracker) : (s.trackerBecomes new).slots = s.slots := by
  simp only [State.trackerBecomes]; split <;> simp

@[simp] theorem State.trackerBecomes_mail (s : State) (new : Tracker) : (s.trackerBecomes new).mail = s.mail := by
  simp only [State.trackerBecomes]; split <;> simp

@[simp] theorem State.trackerBecomes_faults (s : State) (new : Tracker) : (s.trackerBecomes new).faults = s.faults := by
  simp only [State.trackerBecomes]; split <;> simp

@[simp] theorem State.trackerBecomes_lowGates (s : State) (new : Tracker) : (s.trackerBecomes new).lowGates = s.lowGates := by
  simp only [State.trackerBecomes]; split <;> simp

@[simp] theorem State.trackerBecomes_sense (s : State) (new : Tracker) : (s.trackerBecomes new).sense = s.sense := by
  simp only [State.trackerBecomes]; split <;> simp

@[simp] theorem State.trackerBecomes_camIn (s : State) (new : Tracker) : (s.trackerBecomes new).camIn = s.camIn := by
  simp only [State.trackerBecomes]; split <;> simp

@[simp] theorem State.trackerBecomes_lastTaken (s : State) (new : Tracker) : (s.trackerBecomes new).lastTaken = s.lastTaken := by
  simp only [State.trackerBecomes]; split <;> simp

@[simp] theorem State.trackerBecomes_pending (s : State) (new : Tracker) : (s.trackerBecomes new).pending = s.pending := by
  simp only [State.trackerBecomes]; split <;> simp

/-- The notices of a change of sync state (R25). -/
theorem State.trackerBecomes_notices {s : State} {new : Tracker} (h : s.tracker.sync ≠ new.sync) :
    (s.trackerBecomes new).syncToCycle =
      s.syncToCycle ++ [⟨s.tracker.sync, new.sync, s.tracker.phaseKnown, new.phaseKnown⟩] ∧
    (s.trackerBecomes new).syncToTable =
      s.syncToTable ++ [⟨s.tracker.sync, new.sync, s.tracker.phaseKnown, new.phaseKnown⟩] := by
  simp [State.trackerBecomes, h]

/-- The flags of a change of sync state (R25). -/
theorem State.trackerBecomes_raised (s : State) (new : Tracker) :
    Raised s (s.trackerBecomes new) fun _ f =>
      (decide (f = .syncChange) && decide (new.sync ≠ s.tracker.sync)) ||
        (decide (f = .syncLost) && (decide (new.sync ≠ s.tracker.sync) && lostSync s.tracker new)) := by
  simp only [State.trackerBecomes]
  split
  · rename_i h
    exact raised_congr (raised_of_ports rfl) fun _ _ => by simp [noFlags, h]
  · rename_i h
    have h' : new.sync ≠ s.tracker.sync := fun e => h e.symm
    refine raised_congr (((raised_of_ports ?_).trans (raised_raiseBoth _ _)).trans (raised_raiseBothIf _ _ _))
      fun _ f => ?_
    · rfl
    · simp [noFlags, flagBoth, h', Bool.and_comm]

/-! ## `tooth` -/

@[simp] theorem State.tooth_tracker (s : State) (cam : Bool) :
    (s.tooth cam).tracker = s.tracker.onTooth s.now cam s.pointsOwed := by
  simp [State.tooth]

/-- What a tooth arrival leaves alone (R26). -/
theorem State.tooth_frame (s : State) (cam : Bool) :
    s.tooth cam = { s with
      camIn := cam
      toothNotices := s.toothNotices + 1
      tracker := (s.tooth cam).tracker
      syncToCycle := (s.tooth cam).syncToCycle
      syncToTable := (s.tooth cam).syncToTable
      ports := (s.tooth cam).ports } := by
  apply State.eq_of <;> simp [State.tooth]

/-! ## `onTooth` by sync state -/

theorem Tracker.onTooth_stopped {t : Tracker} (h : t.sync = .stopped) (now : Nat) (cam owed : Bool) :
    t.onTooth now cam owed =
      { t with sync := .seeking, window := [], speed := 0, lastTooth := some now, stallOn := true } := by
  cases t; simp_all [Tracker.onTooth]

/-- The tracker with an arrival recorded and the stall timer restarted (R3). -/
def Tracker.arrived (t : Tracker) (now : Nat) : Tracker := { t with lastTooth := some now, stallOn := true }

@[simp] theorem Tracker.arrived_sync (t : Tracker) (now : Nat) : (t.arrived now).sync = t.sync := (rfl)

@[simp] theorem Tracker.arrived_window (t : Tracker) (now : Nat) : (t.arrived now).window = t.window := (rfl)

@[simp] theorem Tracker.arrived_candidateCount (t : Tracker) (now : Nat) : (t.arrived now).candidateCount = t.candidateCount := (rfl)

@[simp] theorem Tracker.arrived_tooth (t : Tracker) (now : Nat) : (t.arrived now).tooth = t.tooth := (rfl)

@[simp] theorem Tracker.arrived_rev (t : Tracker) (now : Nat) : (t.arrived now).rev = t.rev := (rfl)

@[simp] theorem Tracker.arrived_phaseHeld (t : Tracker) (now : Nat) : (t.arrived now).phaseHeld = t.phaseHeld := (rfl)

@[simp] theorem Tracker.arrived_prevCam (t : Tracker) (now : Nat) : (t.arrived now).prevCam = t.prevCam := (rfl)

@[simp] theorem Tracker.arrived_missedGaps (t : Tracker) (now : Nat) : (t.arrived now).missedGaps = t.missedGaps := (rfl)

@[simp] theorem Tracker.arrived_phaseMisses (t : Tracker) (now : Nat) : (t.arrived now).phaseMisses = t.phaseMisses := (rfl)

@[simp] theorem Tracker.arrived_cycles (t : Tracker) (now : Nat) : (t.arrived now).cycles = t.cycles := (rfl)

@[simp] theorem Tracker.arrived_phaseGained (t : Tracker) (now : Nat) : (t.arrived now).phaseGained = t.phaseGained := (rfl)

@[simp] theorem Tracker.arrived_speed (t : Tracker) (now : Nat) : (t.arrived now).speed = t.speed := (rfl)

@[simp] theorem Tracker.arrived_copy (t : Tracker) (now : Nat) : (t.arrived now).copy = t.copy := (rfl)

@[simp] theorem Tracker.arrived_marks (t : Tracker) (now : Nat) : (t.arrived now).marks = t.marks := (rfl)

@[simp] theorem Tracker.arrived_phaseKnown (t : Tracker) (now : Nat) : (t.arrived now).phaseKnown = t.phaseKnown := (rfl)

@[simp] theorem Tracker.arrived_indexHeld (t : Tracker) (now : Nat) : (t.arrived now).indexHeld = t.indexHeld := (rfl)

@[simp] theorem Tracker.arrived_gapDue (t : Tracker) (now : Nat) : (t.arrived now).gapDue = t.gapDue := (rfl)

@[simp] theorem Tracker.arrived_lastTooth (t : Tracker) (now : Nat) : (t.arrived now).lastTooth = some now := (rfl)

@[simp] theorem Tracker.arrived_stallOn (t : Tracker) (now : Nat) : (t.arrived now).stallOn = true := (rfl)

@[simp] theorem Tracker.arrived_gapLike (t : Tracker) (now p : Nat) : (t.arrived now).gapLike p = t.gapLike p := (rfl)

/-- At the tooth itself the angle is the tooth's own (R18). -/
theorem Tracker.position_at_tooth {t : Tracker} {now : Nat} (h : t.lastTooth = some now) :
    t.position now = t.marks.laps * 11520 + ((if t.rev then 5760 else 0) + t.tooth * t.spacing) := by
  simp only [Tracker.position, Tracker.engineAngle, Tracker.revAngle, Tracker.interpolated, Tracker.sinceTooth, h,
    Option.getD_some, Nat.sub_self, if_true, cycleSteps, revSteps, Nat.add_zero]
  cases t.rev <;> simp [bit]

/-- An arrival that yields a period (R3). -/
theorem Tracker.onTooth_period {t : Tracker} {last : Nat} (h : t.sync ≠ .stopped) (hl : t.lastTooth = some last)
    (now : Nat) (cam owed : Bool) :
    t.onTooth now cam owed = t.markJump ((t.arrived now).afterPeriod (now - last) cam) now owed := by
  unfold Tracker.arrived
  cases t; rename_i sync _ _ _ _ _ _ _ _ _ _ _ _ _ _ _
  cases sync <;> simp_all [Tracker.onTooth]

@[simp] theorem Tracker.markJump_sync (t u : Tracker) (now : Nat) (owed : Bool) : (t.markJump u now owed).sync = u.sync := by
  unfold Tracker.markJump; split <;> rfl

theorem Tracker.markJump_unknown {t u : Tracker} (h : t.phaseKnown = false ∨ u.phaseKnown = false) (now : Nat)
    (owed : Bool) : t.markJump u now owed = u := by
  unfold Tracker.markJump
  rcases h with h | h <;> simp [h]

/-- What a jump adds to the marks (R24). -/
theorem Tracker.markJump_known {t u : Tracker} (h : t.phaseKnown = true) (k : u.phaseKnown = true) (now : Nat) (owed : Bool) :
    t.markJump u now owed = { u with marks := { u.marks with
      jumps := ⟨t.position now, u.position now⟩ :: if owed then u.marks.jumps else [] } } := by
  unfold Tracker.markJump; simp [h, k]

/-- The marks of a tooth at which phase stays known (R24). -/
theorem State.jumpMarked {s : State} {u : Tracker} {now laps : Nat} {owed : Bool} (h : PhaseKnown s.tracker) (k : PhaseKnown u)
    (hl : u.lastTooth = some now) (hm : u.marks = { s.tracker.marks with laps := laps }) (ho : owed = true ↔ PointsOwed s now) :
    JumpMarked s now laps ((if u.rev then 5760 else 0) + u.tooth * u.spacing) (s.tracker.markJump u now owed).marks := by
  rw [Tracker.markJump_known ((Tracker.phaseKnown_iff _).2 h) ((Tracker.phaseKnown_iff _).2 k), Tracker.position_at_tooth hl, hm]
  refine ⟨if owed then s.tracker.marks.jumps else [], fun o => if_pos (ho.2 o), fun o => if_neg fun e => o (ho.1 e), rfl⟩

/-- A jump changes only the marks. -/
theorem Tracker.markJump_frame (t u : Tracker) (now : Nat) (owed : Bool) :
    t.markJump u now owed = { u with marks := (t.markJump u now owed).marks } := by
  unfold Tracker.markJump; split <;> rfl

end Sys2Proof.Machine
end

