-- ==== Sys2Proof/Laws/Frames.lean ====
section
/-! SUPPORT. What each operation of a block leaves unchanged, said once: all fields of State but those it may change. -/

namespace Sys2Proof.Machine

/-! ## Messages between blocks -/

@[simp] theorem State.popOutbox_keeps (s : State) (c : Cyl) :
    (s.popOutbox c).now = s.now ∧ (s.popOutbox c).tracker = s.tracker ∧ (s.popOutbox c).syncToCycle = s.syncToCycle ∧
    (s.popOutbox c).syncToTable = s.syncToTable ∧ (s.popOutbox c).toothNotices = s.toothNotices ∧ (s.popOutbox c).plan = s.plan ∧
    (s.popOutbox c).tables = s.tables ∧ (s.popOutbox c).service = s.service ∧ (s.popOutbox c).banks = s.banks ∧
    (s.popOutbox c).slots = s.slots ∧ (s.popOutbox c).mail = s.mail ∧ (s.popOutbox c).faults = s.faults ∧
    (s.popOutbox c).lowGates = s.lowGates ∧ (s.popOutbox c).sense = s.sense ∧ (s.popOutbox c).camIn = s.camIn ∧
    (s.popOutbox c).ports = s.ports ∧ (s.popOutbox c).lastTaken = s.lastTaken ∧ (s.popOutbox c).pending = s.pending := by
  simp [State.popOutbox]

@[simp] theorem State.reportBank_keeps (s : State) (b : Bank) (r : BankReport) :
    (s.reportBank b r).now = s.now ∧ (s.reportBank b r).tracker = s.tracker ∧ (s.reportBank b r).syncToCycle = s.syncToCycle ∧
    (s.reportBank b r).syncToTable = s.syncToTable ∧ (s.reportBank b r).toothNotices = s.toothNotices ∧ (s.reportBank b r).plan = s.plan ∧
    (s.reportBank b r).tables = s.tables ∧ (s.reportBank b r).lanes = s.lanes ∧ (s.reportBank b r).service = s.service ∧
    (s.reportBank b r).banks = s.banks ∧ (s.reportBank b r).slots = s.slots ∧ (s.reportBank b r).faults = s.faults ∧
    (s.reportBank b r).lowGates = s.lowGates ∧ (s.reportBank b r).sense = s.sense ∧ (s.reportBank b r).camIn = s.camIn ∧
    (s.reportBank b r).ports = s.ports ∧ (s.reportBank b r).lastTaken = s.lastTaken ∧ (s.reportBank b r).pending = s.pending := by
  simp [State.reportBank]

@[simp] theorem State.reportCycle_keeps (s : State) (b : Bank) (r : CycleReport) :
    (s.reportCycle b r).now = s.now ∧ (s.reportCycle b r).tracker = s.tracker ∧ (s.reportCycle b r).syncToCycle = s.syncToCycle ∧
    (s.reportCycle b r).syncToTable = s.syncToTable ∧ (s.reportCycle b r).toothNotices = s.toothNotices ∧ (s.reportCycle b r).plan = s.plan ∧
    (s.reportCycle b r).tables = s.tables ∧ (s.reportCycle b r).lanes = s.lanes ∧ (s.reportCycle b r).service = s.service ∧
    (s.reportCycle b r).banks = s.banks ∧ (s.reportCycle b r).slots = s.slots ∧ (s.reportCycle b r).faults = s.faults ∧
    (s.reportCycle b r).lowGates = s.lowGates ∧ (s.reportCycle b r).sense = s.sense ∧ (s.reportCycle b r).camIn = s.camIn ∧
    (s.reportCycle b r).ports = s.ports ∧ (s.reportCycle b r).lastTaken = s.lastTaken ∧ (s.reportCycle b r).pending = s.pending := by
  simp [State.reportCycle]

@[simp] theorem State.popBankReport_keeps (s : State) (b : Bank) :
    (s.popBankReport b).now = s.now ∧ (s.popBankReport b).tracker = s.tracker ∧ (s.popBankReport b).syncToCycle = s.syncToCycle ∧
    (s.popBankReport b).syncToTable = s.syncToTable ∧ (s.popBankReport b).toothNotices = s.toothNotices ∧ (s.popBankReport b).plan = s.plan ∧
    (s.popBankReport b).tables = s.tables ∧ (s.popBankReport b).lanes = s.lanes ∧ (s.popBankReport b).service = s.service ∧
    (s.popBankReport b).banks = s.banks ∧ (s.popBankReport b).slots = s.slots ∧ (s.popBankReport b).faults = s.faults ∧
    (s.popBankReport b).lowGates = s.lowGates ∧ (s.popBankReport b).sense = s.sense ∧ (s.popBankReport b).camIn = s.camIn ∧
    (s.popBankReport b).ports = s.ports ∧ (s.popBankReport b).lastTaken = s.lastTaken ∧ (s.popBankReport b).pending = s.pending := by
  simp [State.popBankReport]

@[simp] theorem State.popCycleReport_keeps (s : State) (b : Bank) :
    (s.popCycleReport b).now = s.now ∧ (s.popCycleReport b).tracker = s.tracker ∧ (s.popCycleReport b).syncToCycle = s.syncToCycle ∧
    (s.popCycleReport b).syncToTable = s.syncToTable ∧ (s.popCycleReport b).toothNotices = s.toothNotices ∧ (s.popCycleReport b).plan = s.plan ∧
    (s.popCycleReport b).tables = s.tables ∧ (s.popCycleReport b).lanes = s.lanes ∧ (s.popCycleReport b).service = s.service ∧
    (s.popCycleReport b).banks = s.banks ∧ (s.popCycleReport b).slots = s.slots ∧ (s.popCycleReport b).faults = s.faults ∧
    (s.popCycleReport b).lowGates = s.lowGates ∧ (s.popCycleReport b).sense = s.sense ∧ (s.popCycleReport b).camIn = s.camIn ∧
    (s.popCycleReport b).ports = s.ports ∧ (s.popCycleReport b).lastTaken = s.lastTaken ∧ (s.popCycleReport b).pending = s.pending := by
  simp [State.popCycleReport]

@[simp] theorem State.popCut_keeps (s : State) (b : Bank) :
    (s.popCut b).now = s.now ∧ (s.popCut b).tracker = s.tracker ∧ (s.popCut b).syncToCycle = s.syncToCycle ∧
    (s.popCut b).syncToTable = s.syncToTable ∧ (s.popCut b).toothNotices = s.toothNotices ∧ (s.popCut b).plan = s.plan ∧
    (s.popCut b).tables = s.tables ∧ (s.popCut b).lanes = s.lanes ∧ (s.popCut b).service = s.service ∧
    (s.popCut b).banks = s.banks ∧ (s.popCut b).slots = s.slots ∧ (s.popCut b).faults = s.faults ∧
    (s.popCut b).lowGates = s.lowGates ∧ (s.popCut b).sense = s.sense ∧ (s.popCut b).camIn = s.camIn ∧
    (s.popCut b).ports = s.ports ∧ (s.popCut b).lastTaken = s.lastTaken ∧ (s.popCut b).pending = s.pending := by
  simp [State.popCut]

@[simp] theorem State.handCut_keeps (s : State) (b : Bank) (h : Holder) :
    (s.handCut b h).now = s.now ∧ (s.handCut b h).tracker = s.tracker ∧ (s.handCut b h).syncToCycle = s.syncToCycle ∧
    (s.handCut b h).syncToTable = s.syncToTable ∧ (s.handCut b h).toothNotices = s.toothNotices ∧ (s.handCut b h).plan = s.plan ∧
    (s.handCut b h).tables = s.tables ∧ (s.handCut b h).lanes = s.lanes ∧ (s.handCut b h).service = s.service ∧
    (s.handCut b h).banks = s.banks ∧ (s.handCut b h).slots = s.slots ∧ (s.handCut b h).faults = s.faults ∧
    (s.handCut b h).lowGates = s.lowGates ∧ (s.handCut b h).sense = s.sense ∧ (s.handCut b h).camIn = s.camIn ∧
    (s.handCut b h).ports = s.ports ∧ (s.handCut b h).lastTaken = s.lastTaken ∧ (s.handCut b h).pending = s.pending := by
  simp [State.handCut]

/-! ## Tracker and plan -/

@[simp] theorem State.stallIfDue_keeps (s : State) :
    (s.stallIfDue).now = s.now ∧ (s.stallIfDue).toothNotices = s.toothNotices ∧ (s.stallIfDue).plan = s.plan ∧
    (s.stallIfDue).tables = s.tables ∧ (s.stallIfDue).lanes = s.lanes ∧ (s.stallIfDue).service = s.service ∧
    (s.stallIfDue).banks = s.banks ∧ (s.stallIfDue).slots = s.slots ∧ (s.stallIfDue).mail = s.mail ∧
    (s.stallIfDue).faults = s.faults ∧ (s.stallIfDue).lowGates = s.lowGates ∧ (s.stallIfDue).sense = s.sense ∧
    (s.stallIfDue).camIn = s.camIn ∧ (s.stallIfDue).lastTaken = s.lastTaken ∧ (s.stallIfDue).pending = s.pending := by
  simp only [State.stallIfDue]
  (repeat' split) <;> simp

@[simp] theorem State.loadWorkingCopy_keeps (s : State) :
    (s.loadWorkingCopy).now = s.now ∧ (s.loadWorkingCopy).toothNotices = s.toothNotices ∧ (s.loadWorkingCopy).plan = s.plan ∧
    (s.loadWorkingCopy).tables = s.tables ∧ (s.loadWorkingCopy).lanes = s.lanes ∧ (s.loadWorkingCopy).service = s.service ∧
    (s.loadWorkingCopy).banks = s.banks ∧ (s.loadWorkingCopy).slots = s.slots ∧ (s.loadWorkingCopy).mail = s.mail ∧
    (s.loadWorkingCopy).faults = s.faults ∧ (s.loadWorkingCopy).lowGates = s.lowGates ∧ (s.loadWorkingCopy).sense = s.sense ∧
    (s.loadWorkingCopy).camIn = s.camIn ∧ (s.loadWorkingCopy).lastTaken = s.lastTaken ∧ (s.loadWorkingCopy).pending = s.pending := by
  simp [State.loadWorkingCopy]

@[simp] theorem State.tooth_keeps (s : State) (cam : Bool) :
    (s.tooth cam).now = s.now ∧ (s.tooth cam).plan = s.plan ∧ (s.tooth cam).tables = s.tables ∧
    (s.tooth cam).lanes = s.lanes ∧ (s.tooth cam).service = s.service ∧ (s.tooth cam).banks = s.banks ∧
    (s.tooth cam).slots = s.slots ∧ (s.tooth cam).mail = s.mail ∧ (s.tooth cam).faults = s.faults ∧
    (s.tooth cam).lowGates = s.lowGates ∧ (s.tooth cam).sense = s.sense ∧ (s.tooth cam).lastTaken = s.lastTaken ∧
    (s.tooth cam).pending = s.pending := by
  simp [State.tooth]

@[simp] theorem State.closePlan_keeps (s : State) :
    (s.closePlan).now = s.now ∧ (s.closePlan).toothNotices = s.toothNotices ∧ (s.closePlan).tables = s.tables ∧
    (s.closePlan).lanes = s.lanes ∧ (s.closePlan).service = s.service ∧ (s.closePlan).banks = s.banks ∧
    (s.closePlan).slots = s.slots ∧ (s.closePlan).mail = s.mail ∧ (s.closePlan).faults = s.faults ∧
    (s.closePlan).lowGates = s.lowGates ∧ (s.closePlan).sense = s.sense ∧ (s.closePlan).camIn = s.camIn ∧
    (s.closePlan).lastTaken = s.lastTaken ∧ (s.closePlan).pending = s.pending := by
  simp [State.closePlan]

@[simp] theorem State.reopenPlan_keeps (s : State) :
    (s.reopenPlan).now = s.now ∧ (s.reopenPlan).tracker = s.tracker ∧ (s.reopenPlan).syncToCycle = s.syncToCycle ∧
    (s.reopenPlan).syncToTable = s.syncToTable ∧ (s.reopenPlan).toothNotices = s.toothNotices ∧ (s.reopenPlan).lanes = s.lanes ∧
    (s.reopenPlan).service = s.service ∧ (s.reopenPlan).banks = s.banks ∧ (s.reopenPlan).slots = s.slots ∧
    (s.reopenPlan).mail = s.mail ∧ (s.reopenPlan).faults = s.faults ∧ (s.reopenPlan).lowGates = s.lowGates ∧
    (s.reopenPlan).sense = s.sense ∧ (s.reopenPlan).camIn = s.camIn ∧ (s.reopenPlan).lastTaken = s.lastTaken ∧
    (s.reopenPlan).pending = s.pending := by
  simp [State.reopenPlan]

@[simp] theorem State.vote_keeps (s : State) (p : Port) :
    (s.vote p).now = s.now ∧ (s.vote p).tracker = s.tracker ∧ (s.vote p).syncToCycle = s.syncToCycle ∧
    (s.vote p).syncToTable = s.syncToTable ∧ (s.vote p).toothNotices = s.toothNotices ∧ (s.vote p).lanes = s.lanes ∧
    (s.vote p).service = s.service ∧ (s.vote p).banks = s.banks ∧ (s.vote p).slots = s.slots ∧
    (s.vote p).mail = s.mail ∧ (s.vote p).faults = s.faults ∧ (s.vote p).lowGates = s.lowGates ∧
    (s.vote p).sense = s.sense ∧ (s.vote p).camIn = s.camIn ∧ (s.vote p).lastTaken = s.lastTaken ∧
    (s.vote p).pending = s.pending := by
  simp only [State.vote]
  (repeat' split) <;> simp

@[simp] theorem State.tableTakesSync_keeps (s : State) :
    (s.tableTakesSync).now = s.now ∧ (s.tableTakesSync).tracker = s.tracker ∧ (s.tableTakesSync).syncToCycle = s.syncToCycle ∧
    (s.tableTakesSync).toothNotices = s.toothNotices ∧ (s.tableTakesSync).tables = s.tables ∧ (s.tableTakesSync).lanes = s.lanes ∧
    (s.tableTakesSync).service = s.service ∧ (s.tableTakesSync).banks = s.banks ∧ (s.tableTakesSync).slots = s.slots ∧
    (s.tableTakesSync).mail = s.mail ∧ (s.tableTakesSync).faults = s.faults ∧ (s.tableTakesSync).lowGates = s.lowGates ∧
    (s.tableTakesSync).sense = s.sense ∧ (s.tableTakesSync).camIn = s.camIn ∧ (s.tableTakesSync).ports = s.ports ∧
    (s.tableTakesSync).lastTaken = s.lastTaken ∧ (s.tableTakesSync).pending = s.pending := by
  simp only [State.tableTakesSync]
  (repeat' split) <;> simp

/-! ## Merge and staging -/

@[simp] theorem State.recompute_keeps (s : State) (c : Cyl) :
    (s.recompute c).now = s.now ∧ (s.recompute c).tracker = s.tracker ∧ (s.recompute c).syncToCycle = s.syncToCycle ∧
    (s.recompute c).syncToTable = s.syncToTable ∧ (s.recompute c).toothNotices = s.toothNotices ∧ (s.recompute c).plan = s.plan ∧
    (s.recompute c).lanes = s.lanes ∧ (s.recompute c).service = s.service ∧ (s.recompute c).banks = s.banks ∧
    (s.recompute c).slots = s.slots ∧ (s.recompute c).mail = s.mail ∧ (s.recompute c).faults = s.faults ∧
    (s.recompute c).lowGates = s.lowGates ∧ (s.recompute c).sense = s.sense ∧ (s.recompute c).camIn = s.camIn ∧
    (s.recompute c).lastTaken = s.lastTaken ∧ (s.recompute c).pending = s.pending := by
  simp [State.recompute]

@[simp] theorem State.writeSlot_keeps (s : State) (p : Port) (c : Cyl) (i : SlotIx) (u : Option Pulse) :
    (s.writeSlot p c i u).now = s.now ∧ (s.writeSlot p c i u).tracker = s.tracker ∧ (s.writeSlot p c i u).syncToCycle = s.syncToCycle ∧
    (s.writeSlot p c i u).syncToTable = s.syncToTable ∧ (s.writeSlot p c i u).toothNotices = s.toothNotices ∧ (s.writeSlot p c i u).plan = s.plan ∧
    (s.writeSlot p c i u).lanes = s.lanes ∧ (s.writeSlot p c i u).service = s.service ∧ (s.writeSlot p c i u).banks = s.banks ∧
    (s.writeSlot p c i u).slots = s.slots ∧ (s.writeSlot p c i u).mail = s.mail ∧ (s.writeSlot p c i u).faults = s.faults ∧
    (s.writeSlot p c i u).lowGates = s.lowGates ∧ (s.writeSlot p c i u).sense = s.sense ∧ (s.writeSlot p c i u).camIn = s.camIn ∧
    (s.writeSlot p c i u).ports = s.ports ∧ (s.writeSlot p c i u).lastTaken = s.lastTaken ∧ (s.writeSlot p c i u).pending = s.pending := by
  simp [State.writeSlot]

@[simp] theorem State.clearStaged_keeps (s : State) (p : Port) (c : Cyl) :
    (s.clearStaged p c).now = s.now ∧ (s.clearStaged p c).tracker = s.tracker ∧ (s.clearStaged p c).syncToCycle = s.syncToCycle ∧
    (s.clearStaged p c).syncToTable = s.syncToTable ∧ (s.clearStaged p c).toothNotices = s.toothNotices ∧ (s.clearStaged p c).plan = s.plan ∧
    (s.clearStaged p c).lanes = s.lanes ∧ (s.clearStaged p c).service = s.service ∧ (s.clearStaged p c).banks = s.banks ∧
    (s.clearStaged p c).slots = s.slots ∧ (s.clearStaged p c).mail = s.mail ∧ (s.clearStaged p c).faults = s.faults ∧
    (s.clearStaged p c).lowGates = s.lowGates ∧ (s.clearStaged p c).sense = s.sense ∧ (s.clearStaged p c).camIn = s.camIn ∧
    (s.clearStaged p c).ports = s.ports ∧ (s.clearStaged p c).lastTaken = s.lastTaken ∧ (s.clearStaged p c).pending = s.pending := by
  simp [State.clearStaged]

@[simp] theorem State.publishOne_keeps (s : State) (p : Port) (c : Cyl) :
    (s.publishOne p c).now = s.now ∧ (s.publishOne p c).tracker = s.tracker ∧ (s.publishOne p c).syncToCycle = s.syncToCycle ∧
    (s.publishOne p c).syncToTable = s.syncToTable ∧ (s.publishOne p c).toothNotices = s.toothNotices ∧ (s.publishOne p c).plan = s.plan ∧
    (s.publishOne p c).lanes = s.lanes ∧ (s.publishOne p c).service = s.service ∧ (s.publishOne p c).banks = s.banks ∧
    (s.publishOne p c).slots = s.slots ∧ (s.publishOne p c).mail = s.mail ∧ (s.publishOne p c).faults = s.faults ∧
    (s.publishOne p c).lowGates = s.lowGates ∧ (s.publishOne p c).sense = s.sense ∧ (s.publishOne p c).camIn = s.camIn ∧
    (s.publishOne p c).lastTaken = s.lastTaken ∧ (s.publishOne p c).pending = s.pending := by
  simp [State.publishOne]

@[simp] theorem State.withdrawOne_keeps (s : State) (p : Port) (c : Cyl) :
    (s.withdrawOne p c).now = s.now ∧ (s.withdrawOne p c).tracker = s.tracker ∧ (s.withdrawOne p c).syncToCycle = s.syncToCycle ∧
    (s.withdrawOne p c).syncToTable = s.syncToTable ∧ (s.withdrawOne p c).toothNotices = s.toothNotices ∧ (s.withdrawOne p c).plan = s.plan ∧
    (s.withdrawOne p c).lanes = s.lanes ∧ (s.withdrawOne p c).service = s.service ∧ (s.withdrawOne p c).banks = s.banks ∧
    (s.withdrawOne p c).slots = s.slots ∧ (s.withdrawOne p c).mail = s.mail ∧ (s.withdrawOne p c).faults = s.faults ∧
    (s.withdrawOne p c).lowGates = s.lowGates ∧ (s.withdrawOne p c).sense = s.sense ∧ (s.withdrawOne p c).camIn = s.camIn ∧
    (s.withdrawOne p c).lastTaken = s.lastTaken ∧ (s.withdrawOne p c).pending = s.pending := by
  simp [State.withdrawOne]

@[simp] theorem State.flagExpiry_keeps (s : State) (on : Bool) (p : Port) :
    (s.flagExpiry on p).now = s.now ∧ (s.flagExpiry on p).tracker = s.tracker ∧ (s.flagExpiry on p).syncToCycle = s.syncToCycle ∧
    (s.flagExpiry on p).syncToTable = s.syncToTable ∧ (s.flagExpiry on p).toothNotices = s.toothNotices ∧ (s.flagExpiry on p).plan = s.plan ∧
    (s.flagExpiry on p).tables = s.tables ∧ (s.flagExpiry on p).lanes = s.lanes ∧ (s.flagExpiry on p).service = s.service ∧
    (s.flagExpiry on p).banks = s.banks ∧ (s.flagExpiry on p).slots = s.slots ∧ (s.flagExpiry on p).mail = s.mail ∧
    (s.flagExpiry on p).faults = s.faults ∧ (s.flagExpiry on p).lowGates = s.lowGates ∧ (s.flagExpiry on p).sense = s.sense ∧
    (s.flagExpiry on p).camIn = s.camIn ∧ (s.flagExpiry on p).lastTaken = s.lastTaken ∧ (s.flagExpiry on p).pending = s.pending := by
  simp [State.flagExpiry]

@[simp] theorem State.stepAges_keeps (s : State) (c : Cyl) :
    (s.stepAges c).now = s.now ∧ (s.stepAges c).tracker = s.tracker ∧ (s.stepAges c).syncToCycle = s.syncToCycle ∧
    (s.stepAges c).syncToTable = s.syncToTable ∧ (s.stepAges c).toothNotices = s.toothNotices ∧ (s.stepAges c).plan = s.plan ∧
    (s.stepAges c).lanes = s.lanes ∧ (s.stepAges c).service = s.service ∧ (s.stepAges c).banks = s.banks ∧
    (s.stepAges c).slots = s.slots ∧ (s.stepAges c).mail = s.mail ∧ (s.stepAges c).faults = s.faults ∧
    (s.stepAges c).lowGates = s.lowGates ∧ (s.stepAges c).sense = s.sense ∧ (s.stepAges c).camIn = s.camIn ∧
    (s.stepAges c).lastTaken = s.lastTaken ∧ (s.stepAges c).pending = s.pending := by
  simp only [State.stepAges]
  (repeat' split) <;> simp

@[simp] theorem State.takeNotice_keeps (s : State) (c : Cyl) :
    (s.takeNotice c).now = s.now ∧ (s.takeNotice c).tracker = s.tracker ∧ (s.takeNotice c).syncToCycle = s.syncToCycle ∧
    (s.takeNotice c).syncToTable = s.syncToTable ∧ (s.takeNotice c).toothNotices = s.toothNotices ∧ (s.takeNotice c).plan = s.plan ∧
    (s.takeNotice c).service = s.service ∧ (s.takeNotice c).banks = s.banks ∧ (s.takeNotice c).slots = s.slots ∧
    (s.takeNotice c).mail = s.mail ∧ (s.takeNotice c).faults = s.faults ∧ (s.takeNotice c).lowGates = s.lowGates ∧
    (s.takeNotice c).sense = s.sense ∧ (s.takeNotice c).camIn = s.camIn ∧ (s.takeNotice c).lastTaken = s.lastTaken ∧
    (s.takeNotice c).pending = s.pending := by
  simp only [State.takeNotice]
  (repeat' split) <;> simp

/-! ## Cycle unit -/

@[simp] theorem State.dropWaiting_keeps (s : State) (c : Cyl) (x : DropReason) :
    (s.dropWaiting c x).now = s.now ∧ (s.dropWaiting c x).tracker = s.tracker ∧ (s.dropWaiting c x).syncToCycle = s.syncToCycle ∧
    (s.dropWaiting c x).syncToTable = s.syncToTable ∧ (s.dropWaiting c x).toothNotices = s.toothNotices ∧ (s.dropWaiting c x).plan = s.plan ∧
    (s.dropWaiting c x).tables = s.tables ∧ (s.dropWaiting c x).service = s.service ∧ (s.dropWaiting c x).banks = s.banks ∧
    (s.dropWaiting c x).slots = s.slots ∧ (s.dropWaiting c x).mail = s.mail ∧ (s.dropWaiting c x).faults = s.faults ∧
    (s.dropWaiting c x).lowGates = s.lowGates ∧ (s.dropWaiting c x).sense = s.sense ∧ (s.dropWaiting c x).camIn = s.camIn ∧
    (s.dropWaiting c x).lastTaken = s.lastTaken ∧ (s.dropWaiting c x).pending = s.pending := by
  simp [State.dropWaiting]

@[simp] theorem State.losePhase_keeps (s : State) (x : DropReason) (c : Cyl) :
    (s.losePhase x c).now = s.now ∧ (s.losePhase x c).tracker = s.tracker ∧ (s.losePhase x c).syncToCycle = s.syncToCycle ∧
    (s.losePhase x c).syncToTable = s.syncToTable ∧ (s.losePhase x c).toothNotices = s.toothNotices ∧ (s.losePhase x c).plan = s.plan ∧
    (s.losePhase x c).tables = s.tables ∧ (s.losePhase x c).service = s.service ∧ (s.losePhase x c).banks = s.banks ∧
    (s.losePhase x c).slots = s.slots ∧ (s.losePhase x c).mail = s.mail ∧ (s.losePhase x c).faults = s.faults ∧
    (s.losePhase x c).lowGates = s.lowGates ∧ (s.losePhase x c).sense = s.sense ∧ (s.losePhase x c).camIn = s.camIn ∧
    (s.losePhase x c).lastTaken = s.lastTaken ∧ (s.losePhase x c).pending = s.pending := by
  simp [State.losePhase]

@[simp] theorem State.closeOldCycle_keeps (s : State) (c : Cyl) :
    (s.closeOldCycle c).now = s.now ∧ (s.closeOldCycle c).tracker = s.tracker ∧ (s.closeOldCycle c).syncToCycle = s.syncToCycle ∧
    (s.closeOldCycle c).syncToTable = s.syncToTable ∧ (s.closeOldCycle c).toothNotices = s.toothNotices ∧ (s.closeOldCycle c).plan = s.plan ∧
    (s.closeOldCycle c).tables = s.tables ∧ (s.closeOldCycle c).service = s.service ∧ (s.closeOldCycle c).banks = s.banks ∧
    (s.closeOldCycle c).slots = s.slots ∧ (s.closeOldCycle c).mail = s.mail ∧ (s.closeOldCycle c).faults = s.faults ∧
    (s.closeOldCycle c).lowGates = s.lowGates ∧ (s.closeOldCycle c).sense = s.sense ∧ (s.closeOldCycle c).camIn = s.camIn ∧
    (s.closeOldCycle c).lastTaken = s.lastTaken ∧ (s.closeOldCycle c).pending = s.pending := by
  simp [State.closeOldCycle]

@[simp] theorem State.beginArming_keeps (s : State) (c : Cyl) (pos advance : Nat) :
    (s.beginArming c pos advance).now = s.now ∧ (s.beginArming c pos advance).syncToCycle = s.syncToCycle ∧ (s.beginArming c pos advance).syncToTable = s.syncToTable ∧
    (s.beginArming c pos advance).toothNotices = s.toothNotices ∧ (s.beginArming c pos advance).plan = s.plan ∧ (s.beginArming c pos advance).tables = s.tables ∧
    (s.beginArming c pos advance).service = s.service ∧ (s.beginArming c pos advance).banks = s.banks ∧ (s.beginArming c pos advance).slots = s.slots ∧
    (s.beginArming c pos advance).mail = s.mail ∧ (s.beginArming c pos advance).faults = s.faults ∧ (s.beginArming c pos advance).lowGates = s.lowGates ∧
    (s.beginArming c pos advance).sense = s.sense ∧ (s.beginArming c pos advance).camIn = s.camIn ∧ (s.beginArming c pos advance).ports = s.ports ∧
    (s.beginArming c pos advance).lastTaken = s.lastTaken ∧ (s.beginArming c pos advance).pending = s.pending := by
  simp [State.beginArming]

@[simp] theorem State.armPoint_keeps (s : State) (c : Cyl) :
    (s.armPoint c).now = s.now ∧ (s.armPoint c).syncToCycle = s.syncToCycle ∧ (s.armPoint c).syncToTable = s.syncToTable ∧
    (s.armPoint c).toothNotices = s.toothNotices ∧ (s.armPoint c).plan = s.plan ∧ (s.armPoint c).tables = s.tables ∧
    (s.armPoint c).service = s.service ∧ (s.armPoint c).banks = s.banks ∧ (s.armPoint c).slots = s.slots ∧
    (s.armPoint c).mail = s.mail ∧ (s.armPoint c).faults = s.faults ∧ (s.armPoint c).lowGates = s.lowGates ∧
    (s.armPoint c).sense = s.sense ∧ (s.armPoint c).camIn = s.camIn ∧ (s.armPoint c).lastTaken = s.lastTaken ∧
    (s.armPoint c).pending = s.pending := by
  simp only [State.armPoint]
  (repeat' split) <;> simp

@[simp] theorem State.placeRecord_keeps (s : State) (c : Cyl) (r : Record) :
    (s.placeRecord c r).now = s.now ∧ (s.placeRecord c r).tracker = s.tracker ∧ (s.placeRecord c r).syncToCycle = s.syncToCycle ∧
    (s.placeRecord c r).syncToTable = s.syncToTable ∧ (s.placeRecord c r).toothNotices = s.toothNotices ∧ (s.placeRecord c r).plan = s.plan ∧
    (s.placeRecord c r).tables = s.tables ∧ (s.placeRecord c r).service = s.service ∧ (s.placeRecord c r).banks = s.banks ∧
    (s.placeRecord c r).slots = s.slots ∧ (s.placeRecord c r).mail = s.mail ∧ (s.placeRecord c r).faults = s.faults ∧
    (s.placeRecord c r).lowGates = s.lowGates ∧ (s.placeRecord c r).sense = s.sense ∧ (s.placeRecord c r).camIn = s.camIn ∧
    (s.placeRecord c r).ports = s.ports ∧ (s.placeRecord c r).lastTaken = s.lastTaken ∧ (s.placeRecord c r).pending = s.pending := by
  simp [State.placeRecord]

@[simp] theorem State.takeAnswer_keeps (s : State) (c : Cyl) :
    (s.takeAnswer c).now = s.now ∧ (s.takeAnswer c).tracker = s.tracker ∧ (s.takeAnswer c).syncToCycle = s.syncToCycle ∧
    (s.takeAnswer c).syncToTable = s.syncToTable ∧ (s.takeAnswer c).toothNotices = s.toothNotices ∧ (s.takeAnswer c).plan = s.plan ∧
    (s.takeAnswer c).tables = s.tables ∧ (s.takeAnswer c).service = s.service ∧ (s.takeAnswer c).banks = s.banks ∧
    (s.takeAnswer c).slots = s.slots ∧ (s.takeAnswer c).mail = s.mail ∧ (s.takeAnswer c).faults = s.faults ∧
    (s.takeAnswer c).lowGates = s.lowGates ∧ (s.takeAnswer c).sense = s.sense ∧ (s.takeAnswer c).camIn = s.camIn ∧
    (s.takeAnswer c).lastTaken = s.lastTaken ∧ (s.takeAnswer c).pending = s.pending := by
  simp only [State.takeAnswer]
  (repeat' split) <;> simp

@[simp] theorem State.startPoint_keeps (s : State) (c : Cyl) (pos : Nat) :
    (s.startPoint c pos).now = s.now ∧ (s.startPoint c pos).tracker = s.tracker ∧ (s.startPoint c pos).syncToCycle = s.syncToCycle ∧
    (s.startPoint c pos).syncToTable = s.syncToTable ∧ (s.startPoint c pos).toothNotices = s.toothNotices ∧ (s.startPoint c pos).plan = s.plan ∧
    (s.startPoint c pos).tables = s.tables ∧ (s.startPoint c pos).service = s.service ∧ (s.startPoint c pos).banks = s.banks ∧
    (s.startPoint c pos).slots = s.slots ∧ (s.startPoint c pos).mail = s.mail ∧ (s.startPoint c pos).faults = s.faults ∧
    (s.startPoint c pos).lowGates = s.lowGates ∧ (s.startPoint c pos).sense = s.sense ∧ (s.startPoint c pos).camIn = s.camIn ∧
    (s.startPoint c pos).ports = s.ports ∧ (s.startPoint c pos).lastTaken = s.lastTaken ∧ (s.startPoint c pos).pending = s.pending := by
  simp only [State.startPoint]
  (repeat' split) <;> simp

@[simp] theorem State.deadline_keeps (s : State) (c : Cyl) (pos : Nat) :
    (s.deadline c pos).now = s.now ∧ (s.deadline c pos).tracker = s.tracker ∧ (s.deadline c pos).syncToCycle = s.syncToCycle ∧
    (s.deadline c pos).syncToTable = s.syncToTable ∧ (s.deadline c pos).toothNotices = s.toothNotices ∧ (s.deadline c pos).plan = s.plan ∧
    (s.deadline c pos).tables = s.tables ∧ (s.deadline c pos).service = s.service ∧ (s.deadline c pos).banks = s.banks ∧
    (s.deadline c pos).slots = s.slots ∧ (s.deadline c pos).mail = s.mail ∧ (s.deadline c pos).faults = s.faults ∧
    (s.deadline c pos).lowGates = s.lowGates ∧ (s.deadline c pos).sense = s.sense ∧ (s.deadline c pos).camIn = s.camIn ∧
    (s.deadline c pos).lastTaken = s.lastTaken ∧ (s.deadline c pos).pending = s.pending := by
  simp only [State.deadline]
  (repeat' split) <;> simp

@[simp] theorem State.endDwell_keeps (s : State) (c : Cyl) :
    (s.endDwell c).now = s.now ∧ (s.endDwell c).tracker = s.tracker ∧ (s.endDwell c).syncToCycle = s.syncToCycle ∧
    (s.endDwell c).syncToTable = s.syncToTable ∧ (s.endDwell c).toothNotices = s.toothNotices ∧ (s.endDwell c).plan = s.plan ∧
    (s.endDwell c).tables = s.tables ∧ (s.endDwell c).service = s.service ∧ (s.endDwell c).banks = s.banks ∧
    (s.endDwell c).slots = s.slots ∧ (s.endDwell c).mail = s.mail ∧ (s.endDwell c).faults = s.faults ∧
    (s.endDwell c).lowGates = s.lowGates ∧ (s.endDwell c).sense = s.sense ∧ (s.endDwell c).camIn = s.camIn ∧
    (s.endDwell c).ports = s.ports ∧ (s.endDwell c).lastTaken = s.lastTaken ∧ (s.endDwell c).pending = s.pending := by
  simp only [State.endDwell]
  (repeat' split) <;> simp

@[simp] theorem State.acceptOffer_keeps (s : State) (b : Bank) (id : PulseId) (r : Record) (p : ArmedPulse) (since duration : Nat) (clipped : Bool) :
    (s.acceptOffer b id r p since duration clipped).now = s.now ∧ (s.acceptOffer b id r p since duration clipped).tracker = s.tracker ∧ (s.acceptOffer b id r p since duration clipped).syncToCycle = s.syncToCycle ∧
    (s.acceptOffer b id r p since duration clipped).syncToTable = s.syncToTable ∧ (s.acceptOffer b id r p since duration clipped).toothNotices = s.toothNotices ∧ (s.acceptOffer b id r p since duration clipped).plan = s.plan ∧
    (s.acceptOffer b id r p since duration clipped).tables = s.tables ∧ (s.acceptOffer b id r p since duration clipped).service = s.service ∧ (s.acceptOffer b id r p since duration clipped).banks = s.banks ∧
    (s.acceptOffer b id r p since duration clipped).slots = s.slots ∧ (s.acceptOffer b id r p since duration clipped).mail = s.mail ∧ (s.acceptOffer b id r p since duration clipped).faults = s.faults ∧
    (s.acceptOffer b id r p since duration clipped).lowGates = s.lowGates ∧ (s.acceptOffer b id r p since duration clipped).sense = s.sense ∧ (s.acceptOffer b id r p since duration clipped).camIn = s.camIn ∧
    (s.acceptOffer b id r p since duration clipped).lastTaken = s.lastTaken ∧ (s.acceptOffer b id r p since duration clipped).pending = s.pending := by
  simp [State.acceptOffer]

@[simp] theorem State.refuseOffer_keeps (s : State) (b : Bank) (id : PulseId) (r : Record) (p : ArmedPulse) :
    (s.refuseOffer b id r p).now = s.now ∧ (s.refuseOffer b id r p).tracker = s.tracker ∧ (s.refuseOffer b id r p).syncToCycle = s.syncToCycle ∧
    (s.refuseOffer b id r p).syncToTable = s.syncToTable ∧ (s.refuseOffer b id r p).toothNotices = s.toothNotices ∧ (s.refuseOffer b id r p).plan = s.plan ∧
    (s.refuseOffer b id r p).tables = s.tables ∧ (s.refuseOffer b id r p).service = s.service ∧ (s.refuseOffer b id r p).banks = s.banks ∧
    (s.refuseOffer b id r p).slots = s.slots ∧ (s.refuseOffer b id r p).mail = s.mail ∧ (s.refuseOffer b id r p).faults = s.faults ∧
    (s.refuseOffer b id r p).lowGates = s.lowGates ∧ (s.refuseOffer b id r p).sense = s.sense ∧ (s.refuseOffer b id r p).camIn = s.camIn ∧
    (s.refuseOffer b id r p).lastTaken = s.lastTaken ∧ (s.refuseOffer b id r p).pending = s.pending := by
  simp [State.refuseOffer]

@[simp] theorem State.takeOffer_keeps (s : State) (b : Bank) :
    (s.takeOffer b).now = s.now ∧ (s.takeOffer b).tracker = s.tracker ∧ (s.takeOffer b).syncToCycle = s.syncToCycle ∧
    (s.takeOffer b).syncToTable = s.syncToTable ∧ (s.takeOffer b).toothNotices = s.toothNotices ∧ (s.takeOffer b).plan = s.plan ∧
    (s.takeOffer b).tables = s.tables ∧ (s.takeOffer b).service = s.service ∧ (s.takeOffer b).banks = s.banks ∧
    (s.takeOffer b).slots = s.slots ∧ (s.takeOffer b).mail = s.mail ∧ (s.takeOffer b).faults = s.faults ∧
    (s.takeOffer b).lowGates = s.lowGates ∧ (s.takeOffer b).sense = s.sense ∧ (s.takeOffer b).camIn = s.camIn ∧
    (s.takeOffer b).lastTaken = s.lastTaken ∧ (s.takeOffer b).pending = s.pending := by
  simp only [State.takeOffer]
  (repeat' split) <;> simp

@[simp] theorem State.takeDriveEnd_keeps (s : State) (b : Bank) :
    (s.takeDriveEnd b).now = s.now ∧ (s.takeDriveEnd b).tracker = s.tracker ∧ (s.takeDriveEnd b).syncToCycle = s.syncToCycle ∧
    (s.takeDriveEnd b).syncToTable = s.syncToTable ∧ (s.takeDriveEnd b).toothNotices = s.toothNotices ∧ (s.takeDriveEnd b).plan = s.plan ∧
    (s.takeDriveEnd b).tables = s.tables ∧ (s.takeDriveEnd b).service = s.service ∧ (s.takeDriveEnd b).banks = s.banks ∧
    (s.takeDriveEnd b).slots = s.slots ∧ (s.takeDriveEnd b).faults = s.faults ∧ (s.takeDriveEnd b).lowGates = s.lowGates ∧
    (s.takeDriveEnd b).sense = s.sense ∧ (s.takeDriveEnd b).camIn = s.camIn ∧ (s.takeDriveEnd b).lastTaken = s.lastTaken ∧
    (s.takeDriveEnd b).pending = s.pending := by
  simp only [State.takeDriveEnd]
  (repeat' split) <;> simp

@[simp] theorem State.startDwell_keeps (s : State) (c : Cyl) (moment : Nat) :
    (s.startDwell c moment).now = s.now ∧ (s.startDwell c moment).tracker = s.tracker ∧ (s.startDwell c moment).syncToCycle = s.syncToCycle ∧
    (s.startDwell c moment).syncToTable = s.syncToTable ∧ (s.startDwell c moment).toothNotices = s.toothNotices ∧ (s.startDwell c moment).plan = s.plan ∧
    (s.startDwell c moment).tables = s.tables ∧ (s.startDwell c moment).service = s.service ∧ (s.startDwell c moment).banks = s.banks ∧
    (s.startDwell c moment).slots = s.slots ∧ (s.startDwell c moment).mail = s.mail ∧ (s.startDwell c moment).faults = s.faults ∧
    (s.startDwell c moment).lowGates = s.lowGates ∧ (s.startDwell c moment).sense = s.sense ∧ (s.startDwell c moment).camIn = s.camIn ∧
    (s.startDwell c moment).ports = s.ports ∧ (s.startDwell c moment).lastTaken = s.lastTaken ∧ (s.startDwell c moment).pending = s.pending := by
  simp [State.startDwell]

@[simp] theorem State.takeRelease_keeps (s : State) (b : Bank) :
    (s.takeRelease b).now = s.now ∧ (s.takeRelease b).tracker = s.tracker ∧ (s.takeRelease b).syncToCycle = s.syncToCycle ∧
    (s.takeRelease b).syncToTable = s.syncToTable ∧ (s.takeRelease b).toothNotices = s.toothNotices ∧ (s.takeRelease b).plan = s.plan ∧
    (s.takeRelease b).tables = s.tables ∧ (s.takeRelease b).service = s.service ∧ (s.takeRelease b).banks = s.banks ∧
    (s.takeRelease b).slots = s.slots ∧ (s.takeRelease b).faults = s.faults ∧ (s.takeRelease b).lowGates = s.lowGates ∧
    (s.takeRelease b).sense = s.sense ∧ (s.takeRelease b).camIn = s.camIn ∧ (s.takeRelease b).ports = s.ports ∧
    (s.takeRelease b).lastTaken = s.lastTaken ∧ (s.takeRelease b).pending = s.pending := by
  simp only [State.takeRelease]
  (repeat' split) <;> simp

@[simp] theorem State.takeIsolation_keeps (s : State) (b : Bank) :
    (s.takeIsolation b).now = s.now ∧ (s.takeIsolation b).tracker = s.tracker ∧ (s.takeIsolation b).syncToCycle = s.syncToCycle ∧
    (s.takeIsolation b).syncToTable = s.syncToTable ∧ (s.takeIsolation b).toothNotices = s.toothNotices ∧ (s.takeIsolation b).plan = s.plan ∧
    (s.takeIsolation b).tables = s.tables ∧ (s.takeIsolation b).service = s.service ∧ (s.takeIsolation b).banks = s.banks ∧
    (s.takeIsolation b).slots = s.slots ∧ (s.takeIsolation b).faults = s.faults ∧ (s.takeIsolation b).lowGates = s.lowGates ∧
    (s.takeIsolation b).sense = s.sense ∧ (s.takeIsolation b).camIn = s.camIn ∧ (s.takeIsolation b).lastTaken = s.lastTaken ∧
    (s.takeIsolation b).pending = s.pending := by
  simp only [State.takeIsolation]
  (repeat' split) <;> simp

/-! ## Driver sequencer -/

@[simp] theorem State.recordFault_keeps (s : State) (b : Bank) (d : Drive) (k : FaultKind) :
    (s.recordFault b d k).now = s.now ∧ (s.recordFault b d k).tracker = s.tracker ∧ (s.recordFault b d k).syncToCycle = s.syncToCycle ∧
    (s.recordFault b d k).syncToTable = s.syncToTable ∧ (s.recordFault b d k).toothNotices = s.toothNotices ∧ (s.recordFault b d k).plan = s.plan ∧
    (s.recordFault b d k).tables = s.tables ∧ (s.recordFault b d k).lanes = s.lanes ∧ (s.recordFault b d k).service = s.service ∧
    (s.recordFault b d k).banks = s.banks ∧ (s.recordFault b d k).mail = s.mail ∧ (s.recordFault b d k).lowGates = s.lowGates ∧
    (s.recordFault b d k).sense = s.sense ∧ (s.recordFault b d k).camIn = s.camIn ∧ (s.recordFault b d k).lastTaken = s.lastTaken ∧
    (s.recordFault b d k).pending = s.pending := by
  simp [State.recordFault]

@[simp] theorem State.countDrive_keeps (s : State) (b : Bank) (c : Cyl) (faults : List FaultKind) :
    (s.countDrive b c faults).now = s.now ∧ (s.countDrive b c faults).tracker = s.tracker ∧ (s.countDrive b c faults).syncToCycle = s.syncToCycle ∧
    (s.countDrive b c faults).syncToTable = s.syncToTable ∧ (s.countDrive b c faults).toothNotices = s.toothNotices ∧ (s.countDrive b c faults).plan = s.plan ∧
    (s.countDrive b c faults).tables = s.tables ∧ (s.countDrive b c faults).lanes = s.lanes ∧ (s.countDrive b c faults).service = s.service ∧
    (s.countDrive b c faults).banks = s.banks ∧ (s.countDrive b c faults).slots = s.slots ∧ (s.countDrive b c faults).lowGates = s.lowGates ∧
    (s.countDrive b c faults).sense = s.sense ∧ (s.countDrive b c faults).camIn = s.camIn ∧ (s.countDrive b c faults).lastTaken = s.lastTaken ∧
    (s.countDrive b c faults).pending = s.pending := by
  simp only [State.countDrive]
  (repeat' split) <;> simp

@[simp] theorem State.completeRelease_keeps (s : State) (b : Bank) (d : Drive) :
    (s.completeRelease b d).now = s.now ∧ (s.completeRelease b d).tracker = s.tracker ∧ (s.completeRelease b d).syncToCycle = s.syncToCycle ∧
    (s.completeRelease b d).syncToTable = s.syncToTable ∧ (s.completeRelease b d).toothNotices = s.toothNotices ∧ (s.completeRelease b d).plan = s.plan ∧
    (s.completeRelease b d).tables = s.tables ∧ (s.completeRelease b d).lanes = s.lanes ∧ (s.completeRelease b d).service = s.service ∧
    (s.completeRelease b d).banks = s.banks ∧ (s.completeRelease b d).lowGates = s.lowGates ∧ (s.completeRelease b d).sense = s.sense ∧
    (s.completeRelease b d).camIn = s.camIn ∧ (s.completeRelease b d).lastTaken = s.lastTaken ∧ (s.completeRelease b d).pending = s.pending := by
  simp only [State.completeRelease]
  (repeat' split) <;> simp

@[simp] theorem State.endDrive_keeps (s : State) (b : Bank) (d : Drive) (cause : Cause) :
    (s.endDrive b d cause).now = s.now ∧ (s.endDrive b d cause).tracker = s.tracker ∧ (s.endDrive b d cause).syncToCycle = s.syncToCycle ∧
    (s.endDrive b d cause).syncToTable = s.syncToTable ∧ (s.endDrive b d cause).toothNotices = s.toothNotices ∧ (s.endDrive b d cause).plan = s.plan ∧
    (s.endDrive b d cause).tables = s.tables ∧ (s.endDrive b d cause).lanes = s.lanes ∧ (s.endDrive b d cause).service = s.service ∧
    (s.endDrive b d cause).banks = s.banks ∧ (s.endDrive b d cause).sense = s.sense ∧ (s.endDrive b d cause).camIn = s.camIn ∧
    (s.endDrive b d cause).lastTaken = s.lastTaken ∧ (s.endDrive b d cause).pending = s.pending := by
  simp only [State.endDrive]
  (repeat' split) <;> simp

@[simp] theorem State.faultDrive_keeps (s : State) (b : Bank) (d : Drive) (k : EndFault) :
    (s.faultDrive b d k).now = s.now ∧ (s.faultDrive b d k).tracker = s.tracker ∧ (s.faultDrive b d k).syncToCycle = s.syncToCycle ∧
    (s.faultDrive b d k).syncToTable = s.syncToTable ∧ (s.faultDrive b d k).toothNotices = s.toothNotices ∧ (s.faultDrive b d k).plan = s.plan ∧
    (s.faultDrive b d k).tables = s.tables ∧ (s.faultDrive b d k).lanes = s.lanes ∧ (s.faultDrive b d k).service = s.service ∧
    (s.faultDrive b d k).banks = s.banks ∧ (s.faultDrive b d k).sense = s.sense ∧ (s.faultDrive b d k).camIn = s.camIn ∧
    (s.faultDrive b d k).lastTaken = s.lastTaken ∧ (s.faultDrive b d k).pending = s.pending := by
  simp [State.faultDrive]

@[simp] theorem State.noteEarlyPeak_keeps (s : State) (b : Bank) (d : Drive) :
    (s.noteEarlyPeak b d).now = s.now ∧ (s.noteEarlyPeak b d).tracker = s.tracker ∧ (s.noteEarlyPeak b d).syncToCycle = s.syncToCycle ∧
    (s.noteEarlyPeak b d).syncToTable = s.syncToTable ∧ (s.noteEarlyPeak b d).toothNotices = s.toothNotices ∧ (s.noteEarlyPeak b d).plan = s.plan ∧
    (s.noteEarlyPeak b d).tables = s.tables ∧ (s.noteEarlyPeak b d).lanes = s.lanes ∧ (s.noteEarlyPeak b d).service = s.service ∧
    (s.noteEarlyPeak b d).banks = s.banks ∧ (s.noteEarlyPeak b d).mail = s.mail ∧ (s.noteEarlyPeak b d).lowGates = s.lowGates ∧
    (s.noteEarlyPeak b d).sense = s.sense ∧ (s.noteEarlyPeak b d).camIn = s.camIn ∧ (s.noteEarlyPeak b d).lastTaken = s.lastTaken ∧
    (s.noteEarlyPeak b d).pending = s.pending := by
  simp only [State.noteEarlyPeak]
  (repeat' split) <;> simp

@[simp] theorem State.peakDrive_keeps (s : State) (b : Bank) (d : Drive) :
    (s.peakDrive b d).now = s.now ∧ (s.peakDrive b d).tracker = s.tracker ∧ (s.peakDrive b d).syncToCycle = s.syncToCycle ∧
    (s.peakDrive b d).syncToTable = s.syncToTable ∧ (s.peakDrive b d).toothNotices = s.toothNotices ∧ (s.peakDrive b d).plan = s.plan ∧
    (s.peakDrive b d).tables = s.tables ∧ (s.peakDrive b d).lanes = s.lanes ∧ (s.peakDrive b d).service = s.service ∧
    (s.peakDrive b d).banks = s.banks ∧ (s.peakDrive b d).lowGates = s.lowGates ∧ (s.peakDrive b d).sense = s.sense ∧
    (s.peakDrive b d).camIn = s.camIn ∧ (s.peakDrive b d).lastTaken = s.lastTaken ∧ (s.peakDrive b d).pending = s.pending := by
  simp [State.peakDrive]

@[simp] theorem State.startDrive_keeps (s : State) (b : Bank) (d : Drive) (x : Sense) :
    (s.startDrive b d x).now = s.now ∧ (s.startDrive b d x).tracker = s.tracker ∧ (s.startDrive b d x).syncToCycle = s.syncToCycle ∧
    (s.startDrive b d x).syncToTable = s.syncToTable ∧ (s.startDrive b d x).toothNotices = s.toothNotices ∧ (s.startDrive b d x).plan = s.plan ∧
    (s.startDrive b d x).tables = s.tables ∧ (s.startDrive b d x).lanes = s.lanes ∧ (s.startDrive b d x).service = s.service ∧
    (s.startDrive b d x).banks = s.banks ∧ (s.startDrive b d x).camIn = s.camIn ∧ (s.startDrive b d x).lastTaken = s.lastTaken ∧
    (s.startDrive b d x).pending = s.pending := by
  simp only [State.startDrive]
  (repeat' split) <;> simp

/-- Nothing but low-side gates differs. -/
abbrev KeepsAllButLowGates (s t : State) : Prop :=
  t.now = s.now ∧ t.tracker = s.tracker ∧ t.syncToCycle = s.syncToCycle ∧ t.syncToTable = s.syncToTable ∧
  t.toothNotices = s.toothNotices ∧ t.plan = s.plan ∧ t.tables = s.tables ∧ t.lanes = s.lanes ∧
  t.service = s.service ∧ t.banks = s.banks ∧ t.slots = s.slots ∧ t.mail = s.mail ∧
  t.faults = s.faults ∧ t.sense = s.sense ∧ t.camIn = s.camIn ∧ t.ports = s.ports ∧
  t.lastTaken = s.lastTaken ∧ t.pending = s.pending

@[simp] theorem State.lowGatesOff_keeps (s : State) (b : Bank) :
    (s.lowGatesOff b).now = s.now ∧ (s.lowGatesOff b).tracker = s.tracker ∧ (s.lowGatesOff b).syncToCycle = s.syncToCycle ∧
    (s.lowGatesOff b).syncToTable = s.syncToTable ∧ (s.lowGatesOff b).toothNotices = s.toothNotices ∧ (s.lowGatesOff b).plan = s.plan ∧
    (s.lowGatesOff b).tables = s.tables ∧ (s.lowGatesOff b).lanes = s.lanes ∧ (s.lowGatesOff b).service = s.service ∧
    (s.lowGatesOff b).banks = s.banks ∧ (s.lowGatesOff b).slots = s.slots ∧ (s.lowGatesOff b).mail = s.mail ∧
    (s.lowGatesOff b).faults = s.faults ∧ (s.lowGatesOff b).sense = s.sense ∧ (s.lowGatesOff b).camIn = s.camIn ∧
    (s.lowGatesOff b).ports = s.ports ∧ (s.lowGatesOff b).lastTaken = s.lastTaken ∧ (s.lowGatesOff b).pending = s.pending := by
  unfold State.lowGatesOff
  generalize Cyl.all = l
  suffices h : ∀ t : State, KeepsAllButLowGates s t → KeepsAllButLowGates s (l.foldl
      (fun s c => if decide (c.num ≤ s.plan.count) && decide (s.plan.bankOf c = b) then s.setLowGate c false else s) t) from
    h s (by simp [KeepsAllButLowGates])
  induction l with
  | nil => exact fun _ h => h
  | cons c l ih =>
    intro t h
    refine ih _ ?_
    beta_reduce
    split
    · simpa [KeepsAllButLowGates] using h
    · exact h

@[simp] theorem State.onPeak_keeps (s : State) (b : Bank) (x : Sense) :
    (s.onPeak b x).now = s.now ∧ (s.onPeak b x).tracker = s.tracker ∧ (s.onPeak b x).syncToCycle = s.syncToCycle ∧
    (s.onPeak b x).syncToTable = s.syncToTable ∧ (s.onPeak b x).toothNotices = s.toothNotices ∧ (s.onPeak b x).plan = s.plan ∧
    (s.onPeak b x).tables = s.tables ∧ (s.onPeak b x).lanes = s.lanes ∧ (s.onPeak b x).service = s.service ∧
    (s.onPeak b x).banks = s.banks ∧ (s.onPeak b x).lowGates = s.lowGates ∧ (s.onPeak b x).camIn = s.camIn ∧
    (s.onPeak b x).lastTaken = s.lastTaken ∧ (s.onPeak b x).pending = s.pending := by
  simp only [State.onPeak]
  (repeat' split) <;> simp

@[simp] theorem State.onChop_keeps (s : State) (b : Bank) (pk : Bool) :
    (s.onChop b pk).now = s.now ∧ (s.onChop b pk).tracker = s.tracker ∧ (s.onChop b pk).syncToCycle = s.syncToCycle ∧
    (s.onChop b pk).syncToTable = s.syncToTable ∧ (s.onChop b pk).toothNotices = s.toothNotices ∧ (s.onChop b pk).plan = s.plan ∧
    (s.onChop b pk).tables = s.tables ∧ (s.onChop b pk).lanes = s.lanes ∧ (s.onChop b pk).service = s.service ∧
    (s.onChop b pk).banks = s.banks ∧ (s.onChop b pk).mail = s.mail ∧ (s.onChop b pk).faults = s.faults ∧
    (s.onChop b pk).lowGates = s.lowGates ∧ (s.onChop b pk).camIn = s.camIn ∧ (s.onChop b pk).ports = s.ports ∧
    (s.onChop b pk).lastTaken = s.lastTaken ∧ (s.onChop b pk).pending = s.pending := by
  simp only [State.onChop]
  (repeat' split) <;> simp

@[simp] theorem State.onFloorEntry_keeps (s : State) (b : Bank) :
    (s.onFloorEntry b).now = s.now ∧ (s.onFloorEntry b).tracker = s.tracker ∧ (s.onFloorEntry b).syncToCycle = s.syncToCycle ∧
    (s.onFloorEntry b).syncToTable = s.syncToTable ∧ (s.onFloorEntry b).toothNotices = s.toothNotices ∧ (s.onFloorEntry b).plan = s.plan ∧
    (s.onFloorEntry b).tables = s.tables ∧ (s.onFloorEntry b).lanes = s.lanes ∧ (s.onFloorEntry b).service = s.service ∧
    (s.onFloorEntry b).banks = s.banks ∧ (s.onFloorEntry b).mail = s.mail ∧ (s.onFloorEntry b).faults = s.faults ∧
    (s.onFloorEntry b).lowGates = s.lowGates ∧ (s.onFloorEntry b).camIn = s.camIn ∧ (s.onFloorEntry b).ports = s.ports ∧
    (s.onFloorEntry b).lastTaken = s.lastTaken ∧ (s.onFloorEntry b).pending = s.pending := by
  simp only [State.onFloorEntry]
  (repeat' split) <;> simp

@[simp] theorem State.onFloorExit_keeps (s : State) (b : Bank) :
    (s.onFloorExit b).now = s.now ∧ (s.onFloorExit b).tracker = s.tracker ∧ (s.onFloorExit b).syncToCycle = s.syncToCycle ∧
    (s.onFloorExit b).syncToTable = s.syncToTable ∧ (s.onFloorExit b).toothNotices = s.toothNotices ∧ (s.onFloorExit b).plan = s.plan ∧
    (s.onFloorExit b).tables = s.tables ∧ (s.onFloorExit b).lanes = s.lanes ∧ (s.onFloorExit b).service = s.service ∧
    (s.onFloorExit b).banks = s.banks ∧ (s.onFloorExit b).mail = s.mail ∧ (s.onFloorExit b).faults = s.faults ∧
    (s.onFloorExit b).lowGates = s.lowGates ∧ (s.onFloorExit b).camIn = s.camIn ∧ (s.onFloorExit b).ports = s.ports ∧
    (s.onFloorExit b).lastTaken = s.lastTaken ∧ (s.onFloorExit b).pending = s.pending := by
  simp only [State.onFloorExit]
  (repeat' split) <;> simp

@[simp] theorem State.onHoldLoss_keeps (s : State) (b : Bank) (x : Sense) :
    (s.onHoldLoss b x).now = s.now ∧ (s.onHoldLoss b x).tracker = s.tracker ∧ (s.onHoldLoss b x).syncToCycle = s.syncToCycle ∧
    (s.onHoldLoss b x).syncToTable = s.syncToTable ∧ (s.onHoldLoss b x).toothNotices = s.toothNotices ∧ (s.onHoldLoss b x).plan = s.plan ∧
    (s.onHoldLoss b x).tables = s.tables ∧ (s.onHoldLoss b x).lanes = s.lanes ∧ (s.onHoldLoss b x).service = s.service ∧
    (s.onHoldLoss b x).banks = s.banks ∧ (s.onHoldLoss b x).camIn = s.camIn ∧ (s.onHoldLoss b x).lastTaken = s.lastTaken ∧
    (s.onHoldLoss b x).pending = s.pending := by
  simp only [State.onHoldLoss]
  (repeat' split) <;> simp

@[simp] theorem State.onPeakLimit_keeps (s : State) (b : Bank) (x : Sense) :
    (s.onPeakLimit b x).now = s.now ∧ (s.onPeakLimit b x).tracker = s.tracker ∧ (s.onPeakLimit b x).syncToCycle = s.syncToCycle ∧
    (s.onPeakLimit b x).syncToTable = s.syncToTable ∧ (s.onPeakLimit b x).toothNotices = s.toothNotices ∧ (s.onPeakLimit b x).plan = s.plan ∧
    (s.onPeakLimit b x).tables = s.tables ∧ (s.onPeakLimit b x).lanes = s.lanes ∧ (s.onPeakLimit b x).service = s.service ∧
    (s.onPeakLimit b x).banks = s.banks ∧ (s.onPeakLimit b x).camIn = s.camIn ∧ (s.onPeakLimit b x).lastTaken = s.lastTaken ∧
    (s.onPeakLimit b x).pending = s.pending := by
  simp only [State.onPeakLimit]
  (repeat' split) <;> simp

@[simp] theorem State.onTrip_keeps (s : State) (b : Bank) (x : Sense) :
    (s.onTrip b x).now = s.now ∧ (s.onTrip b x).tracker = s.tracker ∧ (s.onTrip b x).syncToCycle = s.syncToCycle ∧
    (s.onTrip b x).syncToTable = s.syncToTable ∧ (s.onTrip b x).toothNotices = s.toothNotices ∧ (s.onTrip b x).plan = s.plan ∧
    (s.onTrip b x).tables = s.tables ∧ (s.onTrip b x).lanes = s.lanes ∧ (s.onTrip b x).service = s.service ∧
    (s.onTrip b x).banks = s.banks ∧ (s.onTrip b x).camIn = s.camIn ∧ (s.onTrip b x).lastTaken = s.lastTaken ∧
    (s.onTrip b x).pending = s.pending := by
  simp only [State.onTrip]
  (repeat' split) <;> simp

@[simp] theorem State.onDuration_keeps (s : State) (b : Bank) (x : Sense) :
    (s.onDuration b x).now = s.now ∧ (s.onDuration b x).tracker = s.tracker ∧ (s.onDuration b x).syncToCycle = s.syncToCycle ∧
    (s.onDuration b x).syncToTable = s.syncToTable ∧ (s.onDuration b x).toothNotices = s.toothNotices ∧ (s.onDuration b x).plan = s.plan ∧
    (s.onDuration b x).tables = s.tables ∧ (s.onDuration b x).lanes = s.lanes ∧ (s.onDuration b x).service = s.service ∧
    (s.onDuration b x).banks = s.banks ∧ (s.onDuration b x).camIn = s.camIn ∧ (s.onDuration b x).lastTaken = s.lastTaken ∧
    (s.onDuration b x).pending = s.pending := by
  simp only [State.onDuration]
  (repeat' split) <;> simp

@[simp] theorem State.onCut_keeps (s : State) (b : Bank) (x : Sense) :
    (s.onCut b x).now = s.now ∧ (s.onCut b x).tracker = s.tracker ∧ (s.onCut b x).syncToCycle = s.syncToCycle ∧
    (s.onCut b x).syncToTable = s.syncToTable ∧ (s.onCut b x).toothNotices = s.toothNotices ∧ (s.onCut b x).plan = s.plan ∧
    (s.onCut b x).tables = s.tables ∧ (s.onCut b x).lanes = s.lanes ∧ (s.onCut b x).service = s.service ∧
    (s.onCut b x).banks = s.banks ∧ (s.onCut b x).camIn = s.camIn ∧ (s.onCut b x).lastTaken = s.lastTaken ∧
    (s.onCut b x).pending = s.pending := by
  simp only [State.onCut]
  (repeat' split) <;> simp

@[simp] theorem State.onZero_keeps (s : State) (b : Bank) :
    (s.onZero b).now = s.now ∧ (s.onZero b).tracker = s.tracker ∧ (s.onZero b).syncToCycle = s.syncToCycle ∧
    (s.onZero b).syncToTable = s.syncToTable ∧ (s.onZero b).toothNotices = s.toothNotices ∧ (s.onZero b).plan = s.plan ∧
    (s.onZero b).tables = s.tables ∧ (s.onZero b).lanes = s.lanes ∧ (s.onZero b).service = s.service ∧
    (s.onZero b).banks = s.banks ∧ (s.onZero b).lowGates = s.lowGates ∧ (s.onZero b).camIn = s.camIn ∧
    (s.onZero b).lastTaken = s.lastTaken ∧ (s.onZero b).pending = s.pending := by
  simp only [State.onZero]
  (repeat' split) <;> simp

@[simp] theorem State.onReleaseLimit_keeps (s : State) (b : Bank) :
    (s.onReleaseLimit b).now = s.now ∧ (s.onReleaseLimit b).tracker = s.tracker ∧ (s.onReleaseLimit b).syncToCycle = s.syncToCycle ∧
    (s.onReleaseLimit b).syncToTable = s.syncToTable ∧ (s.onReleaseLimit b).toothNotices = s.toothNotices ∧ (s.onReleaseLimit b).plan = s.plan ∧
    (s.onReleaseLimit b).tables = s.tables ∧ (s.onReleaseLimit b).lanes = s.lanes ∧ (s.onReleaseLimit b).service = s.service ∧
    (s.onReleaseLimit b).banks = s.banks ∧ (s.onReleaseLimit b).sense = s.sense ∧ (s.onReleaseLimit b).camIn = s.camIn ∧
    (s.onReleaseLimit b).lastTaken = s.lastTaken ∧ (s.onReleaseLimit b).pending = s.pending := by
  simp only [State.onReleaseLimit]
  (repeat' split) <;> simp

/-! ## Bank arbiter -/

@[simp] theorem State.takeEntry_keeps (s : State) (c : Cyl) :
    (s.takeEntry c).now = s.now ∧ (s.takeEntry c).tracker = s.tracker ∧ (s.takeEntry c).syncToCycle = s.syncToCycle ∧
    (s.takeEntry c).syncToTable = s.syncToTable ∧ (s.takeEntry c).toothNotices = s.toothNotices ∧ (s.takeEntry c).plan = s.plan ∧
    (s.takeEntry c).tables = s.tables ∧ (s.takeEntry c).service = s.service ∧ (s.takeEntry c).slots = s.slots ∧
    (s.takeEntry c).mail = s.mail ∧ (s.takeEntry c).faults = s.faults ∧ (s.takeEntry c).lowGates = s.lowGates ∧
    (s.takeEntry c).sense = s.sense ∧ (s.takeEntry c).camIn = s.camIn ∧ (s.takeEntry c).ports = s.ports ∧
    (s.takeEntry c).lastTaken = s.lastTaken ∧ (s.takeEntry c).pending = s.pending := by
  simp only [State.takeEntry]
  (repeat' split) <;> simp

@[simp] theorem State.takeRemoval_keeps (s : State) (c : Cyl) :
    (s.takeRemoval c).now = s.now ∧ (s.takeRemoval c).tracker = s.tracker ∧ (s.takeRemoval c).syncToCycle = s.syncToCycle ∧
    (s.takeRemoval c).syncToTable = s.syncToTable ∧ (s.takeRemoval c).toothNotices = s.toothNotices ∧ (s.takeRemoval c).plan = s.plan ∧
    (s.takeRemoval c).tables = s.tables ∧ (s.takeRemoval c).service = s.service ∧ (s.takeRemoval c).slots = s.slots ∧
    (s.takeRemoval c).mail = s.mail ∧ (s.takeRemoval c).faults = s.faults ∧ (s.takeRemoval c).lowGates = s.lowGates ∧
    (s.takeRemoval c).sense = s.sense ∧ (s.takeRemoval c).camIn = s.camIn ∧ (s.takeRemoval c).ports = s.ports ∧
    (s.takeRemoval c).lastTaken = s.lastTaken ∧ (s.takeRemoval c).pending = s.pending := by
  simp only [State.takeRemoval]
  (repeat' split) <;> simp

@[simp] theorem State.takeRefusal_keeps (s : State) (c : Cyl) :
    (s.takeRefusal c).now = s.now ∧ (s.takeRefusal c).tracker = s.tracker ∧ (s.takeRefusal c).syncToCycle = s.syncToCycle ∧
    (s.takeRefusal c).syncToTable = s.syncToTable ∧ (s.takeRefusal c).toothNotices = s.toothNotices ∧ (s.takeRefusal c).plan = s.plan ∧
    (s.takeRefusal c).tables = s.tables ∧ (s.takeRefusal c).service = s.service ∧ (s.takeRefusal c).slots = s.slots ∧
    (s.takeRefusal c).mail = s.mail ∧ (s.takeRefusal c).faults = s.faults ∧ (s.takeRefusal c).lowGates = s.lowGates ∧
    (s.takeRefusal c).sense = s.sense ∧ (s.takeRefusal c).camIn = s.camIn ∧ (s.takeRefusal c).ports = s.ports ∧
    (s.takeRefusal c).lastTaken = s.lastTaken ∧ (s.takeRefusal c).pending = s.pending := by
  simp only [State.takeRefusal]
  (repeat' split) <;> simp

@[simp] theorem State.takeAccept_keeps (s : State) (c : Cyl) (x : Sense) :
    (s.takeAccept c x).now = s.now ∧ (s.takeAccept c x).tracker = s.tracker ∧ (s.takeAccept c x).syncToCycle = s.syncToCycle ∧
    (s.takeAccept c x).syncToTable = s.syncToTable ∧ (s.takeAccept c x).toothNotices = s.toothNotices ∧ (s.takeAccept c x).plan = s.plan ∧
    (s.takeAccept c x).tables = s.tables ∧ (s.takeAccept c x).service = s.service ∧ (s.takeAccept c x).camIn = s.camIn ∧
    (s.takeAccept c x).lastTaken = s.lastTaken ∧ (s.takeAccept c x).pending = s.pending := by
  simp only [State.takeAccept]
  (repeat' split) <;> simp

@[simp] theorem State.cutHolder_keeps (s : State) (b : Bank) (h : Holder) :
    (s.cutHolder b h).now = s.now ∧ (s.cutHolder b h).tracker = s.tracker ∧ (s.cutHolder b h).syncToCycle = s.syncToCycle ∧
    (s.cutHolder b h).syncToTable = s.syncToTable ∧ (s.cutHolder b h).toothNotices = s.toothNotices ∧ (s.cutHolder b h).plan = s.plan ∧
    (s.cutHolder b h).tables = s.tables ∧ (s.cutHolder b h).lanes = s.lanes ∧ (s.cutHolder b h).service = s.service ∧
    (s.cutHolder b h).banks = s.banks ∧ (s.cutHolder b h).slots = s.slots ∧ (s.cutHolder b h).faults = s.faults ∧
    (s.cutHolder b h).lowGates = s.lowGates ∧ (s.cutHolder b h).sense = s.sense ∧ (s.cutHolder b h).camIn = s.camIn ∧
    (s.cutHolder b h).ports = s.ports ∧ (s.cutHolder b h).lastTaken = s.lastTaken ∧ (s.cutHolder b h).pending = s.pending := by
  simp only [State.cutHolder]
  (repeat' split) <;> simp

@[simp] theorem State.takeCut_keeps (s : State) (c : Cyl) :
    (s.takeCut c).now = s.now ∧ (s.takeCut c).tracker = s.tracker ∧ (s.takeCut c).syncToCycle = s.syncToCycle ∧
    (s.takeCut c).syncToTable = s.syncToTable ∧ (s.takeCut c).toothNotices = s.toothNotices ∧ (s.takeCut c).plan = s.plan ∧
    (s.takeCut c).tables = s.tables ∧ (s.takeCut c).service = s.service ∧ (s.takeCut c).banks = s.banks ∧
    (s.takeCut c).slots = s.slots ∧ (s.takeCut c).faults = s.faults ∧ (s.takeCut c).lowGates = s.lowGates ∧
    (s.takeCut c).sense = s.sense ∧ (s.takeCut c).camIn = s.camIn ∧ (s.takeCut c).ports = s.ports ∧
    (s.takeCut c).lastTaken = s.lastTaken ∧ (s.takeCut c).pending = s.pending := by
  simp only [State.takeCut]
  (repeat' split) <;> simp

@[simp] theorem State.takeBoostEnd_keeps (s : State) (b : Bank) :
    (s.takeBoostEnd b).now = s.now ∧ (s.takeBoostEnd b).tracker = s.tracker ∧ (s.takeBoostEnd b).syncToCycle = s.syncToCycle ∧
    (s.takeBoostEnd b).syncToTable = s.syncToTable ∧ (s.takeBoostEnd b).toothNotices = s.toothNotices ∧ (s.takeBoostEnd b).plan = s.plan ∧
    (s.takeBoostEnd b).tables = s.tables ∧ (s.takeBoostEnd b).lanes = s.lanes ∧ (s.takeBoostEnd b).service = s.service ∧
    (s.takeBoostEnd b).slots = s.slots ∧ (s.takeBoostEnd b).faults = s.faults ∧ (s.takeBoostEnd b).lowGates = s.lowGates ∧
    (s.takeBoostEnd b).sense = s.sense ∧ (s.takeBoostEnd b).camIn = s.camIn ∧ (s.takeBoostEnd b).ports = s.ports ∧
    (s.takeBoostEnd b).lastTaken = s.lastTaken ∧ (s.takeBoostEnd b).pending = s.pending := by
  simp only [State.takeBoostEnd]
  (repeat' split) <;> simp

@[simp] theorem State.bankTakesDriveEnd_keeps (s : State) (b : Bank) :
    (s.bankTakesDriveEnd b).now = s.now ∧ (s.bankTakesDriveEnd b).tracker = s.tracker ∧ (s.bankTakesDriveEnd b).syncToCycle = s.syncToCycle ∧
    (s.bankTakesDriveEnd b).syncToTable = s.syncToTable ∧ (s.bankTakesDriveEnd b).toothNotices = s.toothNotices ∧ (s.bankTakesDriveEnd b).plan = s.plan ∧
    (s.bankTakesDriveEnd b).tables = s.tables ∧ (s.bankTakesDriveEnd b).lanes = s.lanes ∧ (s.bankTakesDriveEnd b).service = s.service ∧
    (s.bankTakesDriveEnd b).slots = s.slots ∧ (s.bankTakesDriveEnd b).faults = s.faults ∧ (s.bankTakesDriveEnd b).lowGates = s.lowGates ∧
    (s.bankTakesDriveEnd b).sense = s.sense ∧ (s.bankTakesDriveEnd b).camIn = s.camIn ∧ (s.bankTakesDriveEnd b).ports = s.ports ∧
    (s.bankTakesDriveEnd b).lastTaken = s.lastTaken ∧ (s.bankTakesDriveEnd b).pending = s.pending := by
  simp only [State.bankTakesDriveEnd]
  (repeat' split) <;> simp

@[simp] theorem State.bankTakesRelease_keeps (s : State) (b : Bank) :
    (s.bankTakesRelease b).now = s.now ∧ (s.bankTakesRelease b).tracker = s.tracker ∧ (s.bankTakesRelease b).syncToCycle = s.syncToCycle ∧
    (s.bankTakesRelease b).syncToTable = s.syncToTable ∧ (s.bankTakesRelease b).toothNotices = s.toothNotices ∧ (s.bankTakesRelease b).plan = s.plan ∧
    (s.bankTakesRelease b).tables = s.tables ∧ (s.bankTakesRelease b).lanes = s.lanes ∧ (s.bankTakesRelease b).service = s.service ∧
    (s.bankTakesRelease b).slots = s.slots ∧ (s.bankTakesRelease b).faults = s.faults ∧ (s.bankTakesRelease b).lowGates = s.lowGates ∧
    (s.bankTakesRelease b).sense = s.sense ∧ (s.bankTakesRelease b).camIn = s.camIn ∧ (s.bankTakesRelease b).ports = s.ports ∧
    (s.bankTakesRelease b).lastTaken = s.lastTaken ∧ (s.bankTakesRelease b).pending = s.pending := by
  simp only [State.bankTakesRelease]
  (repeat' split) <;> simp

@[simp] theorem State.rechargeBank_keeps (s : State) (b : Bank) :
    (s.rechargeBank b).now = s.now ∧ (s.rechargeBank b).tracker = s.tracker ∧ (s.rechargeBank b).syncToCycle = s.syncToCycle ∧
    (s.rechargeBank b).syncToTable = s.syncToTable ∧ (s.rechargeBank b).toothNotices = s.toothNotices ∧ (s.rechargeBank b).plan = s.plan ∧
    (s.rechargeBank b).tables = s.tables ∧ (s.rechargeBank b).lanes = s.lanes ∧ (s.rechargeBank b).service = s.service ∧
    (s.rechargeBank b).slots = s.slots ∧ (s.rechargeBank b).mail = s.mail ∧ (s.rechargeBank b).faults = s.faults ∧
    (s.rechargeBank b).lowGates = s.lowGates ∧ (s.rechargeBank b).sense = s.sense ∧ (s.rechargeBank b).camIn = s.camIn ∧
    (s.rechargeBank b).ports = s.ports ∧ (s.rechargeBank b).lastTaken = s.lastTaken ∧ (s.rechargeBank b).pending = s.pending := by
  simp [State.rechargeBank]

@[simp] theorem State.preempt_keeps (s : State) (b : Bank) :
    (s.preempt b).now = s.now ∧ (s.preempt b).tracker = s.tracker ∧ (s.preempt b).syncToCycle = s.syncToCycle ∧
    (s.preempt b).syncToTable = s.syncToTable ∧ (s.preempt b).toothNotices = s.toothNotices ∧ (s.preempt b).plan = s.plan ∧
    (s.preempt b).tables = s.tables ∧ (s.preempt b).lanes = s.lanes ∧ (s.preempt b).service = s.service ∧
    (s.preempt b).slots = s.slots ∧ (s.preempt b).faults = s.faults ∧ (s.preempt b).lowGates = s.lowGates ∧
    (s.preempt b).sense = s.sense ∧ (s.preempt b).camIn = s.camIn ∧ (s.preempt b).ports = s.ports ∧
    (s.preempt b).lastTaken = s.lastTaken ∧ (s.preempt b).pending = s.pending := by
  simp only [State.preempt]
  (repeat' split) <;> simp

/-! ## Service function -/

@[simp] theorem State.startService_keeps (s : State) (p : Port) (c : Cyl) (i : ProfileIx) (d : Nat) (x : Sense) :
    (s.startService p c i d x).now = s.now ∧ (s.startService p c i d x).tracker = s.tracker ∧ (s.startService p c i d x).syncToCycle = s.syncToCycle ∧
    (s.startService p c i d x).syncToTable = s.syncToTable ∧ (s.startService p c i d x).toothNotices = s.toothNotices ∧ (s.startService p c i d x).plan = s.plan ∧
    (s.startService p c i d x).tables = s.tables ∧ (s.startService p c i d x).camIn = s.camIn ∧ (s.startService p c i d x).lastTaken = s.lastTaken ∧
    (s.startService p c i d x).pending = s.pending := by
  simp [State.startService]

@[simp] theorem State.takeToothNotice_keeps (s : State) :
    (s.takeToothNotice).now = s.now ∧ (s.takeToothNotice).tracker = s.tracker ∧ (s.takeToothNotice).syncToCycle = s.syncToCycle ∧
    (s.takeToothNotice).syncToTable = s.syncToTable ∧ (s.takeToothNotice).plan = s.plan ∧ (s.takeToothNotice).tables = s.tables ∧
    (s.takeToothNotice).service = s.service ∧ (s.takeToothNotice).banks = s.banks ∧ (s.takeToothNotice).slots = s.slots ∧
    (s.takeToothNotice).mail = s.mail ∧ (s.takeToothNotice).faults = s.faults ∧ (s.takeToothNotice).lowGates = s.lowGates ∧
    (s.takeToothNotice).sense = s.sense ∧ (s.takeToothNotice).camIn = s.camIn ∧ (s.takeToothNotice).ports = s.ports ∧
    (s.takeToothNotice).lastTaken = s.lastTaken ∧ (s.takeToothNotice).pending = s.pending := by
  simp only [State.takeToothNotice]
  (repeat' split) <;> simp

@[simp] theorem State.serviceTakesDriveEnd_keeps (s : State) (b : Bank) :
    (s.serviceTakesDriveEnd b).now = s.now ∧ (s.serviceTakesDriveEnd b).tracker = s.tracker ∧ (s.serviceTakesDriveEnd b).syncToCycle = s.syncToCycle ∧
    (s.serviceTakesDriveEnd b).syncToTable = s.syncToTable ∧ (s.serviceTakesDriveEnd b).toothNotices = s.toothNotices ∧ (s.serviceTakesDriveEnd b).plan = s.plan ∧
    (s.serviceTakesDriveEnd b).tables = s.tables ∧ (s.serviceTakesDriveEnd b).banks = s.banks ∧ (s.serviceTakesDriveEnd b).slots = s.slots ∧
    (s.serviceTakesDriveEnd b).faults = s.faults ∧ (s.serviceTakesDriveEnd b).lowGates = s.lowGates ∧ (s.serviceTakesDriveEnd b).sense = s.sense ∧
    (s.serviceTakesDriveEnd b).camIn = s.camIn ∧ (s.serviceTakesDriveEnd b).ports = s.ports ∧ (s.serviceTakesDriveEnd b).lastTaken = s.lastTaken ∧
    (s.serviceTakesDriveEnd b).pending = s.pending := by
  simp only [State.serviceTakesDriveEnd]
  (repeat' split) <;> simp

@[simp] theorem State.endService_keeps (s : State) (v : ServicePulse) (r : ServiceResult) (last : Option FaultKind) :
    (s.endService v r last).now = s.now ∧ (s.endService v r last).tracker = s.tracker ∧ (s.endService v r last).syncToCycle = s.syncToCycle ∧
    (s.endService v r last).syncToTable = s.syncToTable ∧ (s.endService v r last).toothNotices = s.toothNotices ∧ (s.endService v r last).plan = s.plan ∧
    (s.endService v r last).tables = s.tables ∧ (s.endService v r last).lanes = s.lanes ∧ (s.endService v r last).banks = s.banks ∧
    (s.endService v r last).slots = s.slots ∧ (s.endService v r last).mail = s.mail ∧ (s.endService v r last).faults = s.faults ∧
    (s.endService v r last).lowGates = s.lowGates ∧ (s.endService v r last).sense = s.sense ∧ (s.endService v r last).camIn = s.camIn ∧
    (s.endService v r last).lastTaken = s.lastTaken ∧ (s.endService v r last).pending = s.pending := by
  simp [State.endService]

@[simp] theorem State.serviceTakesRelease_keeps (s : State) (b : Bank) :
    (s.serviceTakesRelease b).now = s.now ∧ (s.serviceTakesRelease b).tracker = s.tracker ∧ (s.serviceTakesRelease b).syncToCycle = s.syncToCycle ∧
    (s.serviceTakesRelease b).syncToTable = s.syncToTable ∧ (s.serviceTakesRelease b).toothNotices = s.toothNotices ∧ (s.serviceTakesRelease b).plan = s.plan ∧
    (s.serviceTakesRelease b).tables = s.tables ∧ (s.serviceTakesRelease b).banks = s.banks ∧ (s.serviceTakesRelease b).slots = s.slots ∧
    (s.serviceTakesRelease b).faults = s.faults ∧ (s.serviceTakesRelease b).lowGates = s.lowGates ∧ (s.serviceTakesRelease b).sense = s.sense ∧
    (s.serviceTakesRelease b).camIn = s.camIn ∧ (s.serviceTakesRelease b).lastTaken = s.lastTaken ∧ (s.serviceTakesRelease b).pending = s.pending := by
  simp only [State.serviceTakesRelease]
  (repeat' split) <;> simp

/-! ## Ports -/

@[simp] theorem State.beginTransaction_keeps (s : State) (p : Port) :
    (s.beginTransaction p).now = s.now ∧ (s.beginTransaction p).tracker = s.tracker ∧ (s.beginTransaction p).syncToCycle = s.syncToCycle ∧
    (s.beginTransaction p).syncToTable = s.syncToTable ∧ (s.beginTransaction p).toothNotices = s.toothNotices ∧ (s.beginTransaction p).plan = s.plan ∧
    (s.beginTransaction p).tables = s.tables ∧ (s.beginTransaction p).lanes = s.lanes ∧ (s.beginTransaction p).service = s.service ∧
    (s.beginTransaction p).banks = s.banks ∧ (s.beginTransaction p).slots = s.slots ∧ (s.beginTransaction p).mail = s.mail ∧
    (s.beginTransaction p).faults = s.faults ∧ (s.beginTransaction p).lowGates = s.lowGates ∧ (s.beginTransaction p).sense = s.sense ∧
    (s.beginTransaction p).camIn = s.camIn ∧ (s.beginTransaction p).lastTaken = s.lastTaken ∧ (s.beginTransaction p).pending = s.pending := by
  simp only [State.beginTransaction]
  (repeat' split) <;> simp

@[simp] theorem State.resetPort_keeps (s : State) (p : Port) (tag : BitVec 4) :
    (s.resetPort p tag).now = s.now ∧ (s.resetPort p tag).tracker = s.tracker ∧ (s.resetPort p tag).syncToCycle = s.syncToCycle ∧
    (s.resetPort p tag).syncToTable = s.syncToTable ∧ (s.resetPort p tag).toothNotices = s.toothNotices ∧ (s.resetPort p tag).tables = s.tables ∧
    (s.resetPort p tag).lanes = s.lanes ∧ (s.resetPort p tag).service = s.service ∧ (s.resetPort p tag).banks = s.banks ∧
    (s.resetPort p tag).slots = s.slots ∧ (s.resetPort p tag).mail = s.mail ∧ (s.resetPort p tag).faults = s.faults ∧
    (s.resetPort p tag).lowGates = s.lowGates ∧ (s.resetPort p tag).sense = s.sense ∧ (s.resetPort p tag).camIn = s.camIn ∧
    (s.resetPort p tag).lastTaken = s.lastTaken ∧ (s.resetPort p tag).pending = s.pending := by
  simp [State.resetPort]

@[simp] theorem State.judgeFrame_keeps (s : State) (p : Port) (rx : Wire) :
    (s.judgeFrame p rx).now = s.now ∧ (s.judgeFrame p rx).tracker = s.tracker ∧ (s.judgeFrame p rx).syncToCycle = s.syncToCycle ∧
    (s.judgeFrame p rx).syncToTable = s.syncToTable ∧ (s.judgeFrame p rx).toothNotices = s.toothNotices ∧ (s.judgeFrame p rx).tables = s.tables ∧
    (s.judgeFrame p rx).lanes = s.lanes ∧ (s.judgeFrame p rx).service = s.service ∧ (s.judgeFrame p rx).banks = s.banks ∧
    (s.judgeFrame p rx).slots = s.slots ∧ (s.judgeFrame p rx).mail = s.mail ∧ (s.judgeFrame p rx).faults = s.faults ∧
    (s.judgeFrame p rx).lowGates = s.lowGates ∧ (s.judgeFrame p rx).sense = s.sense ∧ (s.judgeFrame p rx).camIn = s.camIn ∧
    (s.judgeFrame p rx).lastTaken = s.lastTaken ∧ (s.judgeFrame p rx).pending = s.pending := by
  simp only [State.judgeFrame]
  (repeat' split) <;> simp

@[simp] theorem State.completeTransaction_keeps (s : State) (p : Port) (rx : Wire) :
    (s.completeTransaction p rx).now = s.now ∧ (s.completeTransaction p rx).tracker = s.tracker ∧ (s.completeTransaction p rx).syncToCycle = s.syncToCycle ∧
    (s.completeTransaction p rx).syncToTable = s.syncToTable ∧ (s.completeTransaction p rx).toothNotices = s.toothNotices ∧ (s.completeTransaction p rx).tables = s.tables ∧
    (s.completeTransaction p rx).lanes = s.lanes ∧ (s.completeTransaction p rx).service = s.service ∧ (s.completeTransaction p rx).banks = s.banks ∧
    (s.completeTransaction p rx).slots = s.slots ∧ (s.completeTransaction p rx).mail = s.mail ∧ (s.completeTransaction p rx).faults = s.faults ∧
    (s.completeTransaction p rx).lowGates = s.lowGates ∧ (s.completeTransaction p rx).sense = s.sense ∧ (s.completeTransaction p rx).camIn = s.camIn ∧
    (s.completeTransaction p rx).lastTaken = s.lastTaken ∧ (s.completeTransaction p rx).pending = s.pending := by
  simp only [State.completeTransaction]
  (repeat' split) <;> simp

@[simp] theorem State.abandonTransaction_keeps (s : State) (p : Port) :
    (s.abandonTransaction p).now = s.now ∧ (s.abandonTransaction p).tracker = s.tracker ∧ (s.abandonTransaction p).syncToCycle = s.syncToCycle ∧
    (s.abandonTransaction p).syncToTable = s.syncToTable ∧ (s.abandonTransaction p).toothNotices = s.toothNotices ∧ (s.abandonTransaction p).plan = s.plan ∧
    (s.abandonTransaction p).tables = s.tables ∧ (s.abandonTransaction p).lanes = s.lanes ∧ (s.abandonTransaction p).service = s.service ∧
    (s.abandonTransaction p).banks = s.banks ∧ (s.abandonTransaction p).slots = s.slots ∧ (s.abandonTransaction p).mail = s.mail ∧
    (s.abandonTransaction p).faults = s.faults ∧ (s.abandonTransaction p).lowGates = s.lowGates ∧ (s.abandonTransaction p).sense = s.sense ∧
    (s.abandonTransaction p).camIn = s.camIn ∧ (s.abandonTransaction p).lastTaken = s.lastTaken ∧ (s.abandonTransaction p).pending = s.pending := by
  simp only [State.abandonTransaction]
  (repeat' split) <;> simp

@[simp] theorem State.takeHead_keeps (s : State) (p : Port) :
    (s.takeHead p).now = s.now ∧ (s.takeHead p).tracker = s.tracker ∧ (s.takeHead p).syncToCycle = s.syncToCycle ∧
    (s.takeHead p).syncToTable = s.syncToTable ∧ (s.takeHead p).toothNotices = s.toothNotices ∧ (s.takeHead p).plan = s.plan ∧
    (s.takeHead p).tables = s.tables ∧ (s.takeHead p).lanes = s.lanes ∧ (s.takeHead p).service = s.service ∧
    (s.takeHead p).banks = s.banks ∧ (s.takeHead p).slots = s.slots ∧ (s.takeHead p).mail = s.mail ∧
    (s.takeHead p).faults = s.faults ∧ (s.takeHead p).lowGates = s.lowGates ∧ (s.takeHead p).sense = s.sense ∧
    (s.takeHead p).camIn = s.camIn ∧ (s.takeHead p).pending = s.pending := by
  simp [State.takeHead]

@[simp] theorem State.answer_keeps (s : State) (p : Port) (r : Reply) :
    (s.answer p r).now = s.now ∧ (s.answer p r).tracker = s.tracker ∧ (s.answer p r).syncToCycle = s.syncToCycle ∧
    (s.answer p r).syncToTable = s.syncToTable ∧ (s.answer p r).toothNotices = s.toothNotices ∧ (s.answer p r).plan = s.plan ∧
    (s.answer p r).tables = s.tables ∧ (s.answer p r).lanes = s.lanes ∧ (s.answer p r).service = s.service ∧
    (s.answer p r).banks = s.banks ∧ (s.answer p r).slots = s.slots ∧ (s.answer p r).mail = s.mail ∧
    (s.answer p r).faults = s.faults ∧ (s.answer p r).lowGates = s.lowGates ∧ (s.answer p r).sense = s.sense ∧
    (s.answer p r).camIn = s.camIn ∧ (s.answer p r).lastTaken = s.lastTaken ∧ (s.answer p r).pending = s.pending := by
  simp [State.answer]

end Sys2Proof.Machine
end

