-- ==== Sys2Proof/Laws/Ports.lean ====
section
/-! SUPPORT. What a taking of the table engine does, said once: which request it takes, and the reply it leaves. -/

namespace Sys2Proof.Machine

@[simp] theorem Port.other_other (p : Port) : p.other.other = p := by cases p <;> rfl

theorem Port.other_ne (p : Port) : p.other ≠ p := by cases p <;> decide

theorem Port.eq_or_other (p q : Port) : q = p ∨ q = p.other := by cases p <;> cases q <;> simp [Port.other]

/-! ## Fields after a taking and after a reply -/

@[simp] theorem State.taken_now (s : State) (dt : Nat) (p : Port) (rest : List Request) : (s.taken dt p rest).now = s.now + dt := rfl
@[simp] theorem State.taken_lastTaken (s : State) (dt : Nat) (p : Port) (rest : List Request) : (s.taken dt p rest).lastTaken = p := rfl
@[simp] theorem State.taken_tracker (s : State) (dt : Nat) (p : Port) (rest : List Request) : (s.taken dt p rest).tracker = s.tracker := rfl
@[simp] theorem State.taken_syncToCycle (s : State) (dt : Nat) (p : Port) (rest : List Request) : (s.taken dt p rest).syncToCycle = s.syncToCycle := rfl
@[simp] theorem State.taken_syncToTable (s : State) (dt : Nat) (p : Port) (rest : List Request) : (s.taken dt p rest).syncToTable = s.syncToTable := rfl
@[simp] theorem State.taken_toothNotices (s : State) (dt : Nat) (p : Port) (rest : List Request) : (s.taken dt p rest).toothNotices = s.toothNotices := rfl
@[simp] theorem State.taken_plan (s : State) (dt : Nat) (p : Port) (rest : List Request) : (s.taken dt p rest).plan = s.plan := rfl
@[simp] theorem State.taken_tables (s : State) (dt : Nat) (p : Port) (rest : List Request) : (s.taken dt p rest).tables = s.tables := rfl
@[simp] theorem State.taken_lanes (s : State) (dt : Nat) (p : Port) (rest : List Request) : (s.taken dt p rest).lanes = s.lanes := rfl
@[simp] theorem State.taken_service (s : State) (dt : Nat) (p : Port) (rest : List Request) : (s.taken dt p rest).service = s.service := rfl
@[simp] theorem State.taken_banks (s : State) (dt : Nat) (p : Port) (rest : List Request) : (s.taken dt p rest).banks = s.banks := rfl
@[simp] theorem State.taken_slots (s : State) (dt : Nat) (p : Port) (rest : List Request) : (s.taken dt p rest).slots = s.slots := rfl
@[simp] theorem State.taken_mail (s : State) (dt : Nat) (p : Port) (rest : List Request) : (s.taken dt p rest).mail = s.mail := rfl
@[simp] theorem State.taken_faults (s : State) (dt : Nat) (p : Port) (rest : List Request) : (s.taken dt p rest).faults = s.faults := rfl
@[simp] theorem State.taken_lowGates (s : State) (dt : Nat) (p : Port) (rest : List Request) : (s.taken dt p rest).lowGates = s.lowGates := rfl
@[simp] theorem State.taken_sense (s : State) (dt : Nat) (p : Port) (rest : List Request) : (s.taken dt p rest).sense = s.sense := rfl
@[simp] theorem State.taken_camIn (s : State) (dt : Nat) (p : Port) (rest : List Request) : (s.taken dt p rest).camIn = s.camIn := rfl
@[simp] theorem State.taken_pending (s : State) (dt : Nat) (p : Port) (rest : List Request) : (s.taken dt p rest).pending = s.pending := rfl
@[simp] theorem State.taken_lane (s : State) (dt : Nat) (p : Port) (rest : List Request) (i : Cyl) : (s.taken dt p rest).lane i = s.lane i := rfl
@[simp] theorem State.taken_bank (s : State) (dt : Nat) (p : Port) (rest : List Request) (i : Bank) : (s.taken dt p rest).bank i = s.bank i := rfl
@[simp] theorem State.taken_slot (s : State) (dt : Nat) (p : Port) (rest : List Request) (i : Bank) : (s.taken dt p rest).slot i = s.slot i := rfl
@[simp] theorem State.taken_mailOf (s : State) (dt : Nat) (p : Port) (rest : List Request) (i : Bank) : (s.taken dt p rest).mailOf i = s.mailOf i := rfl
@[simp] theorem State.taken_faultsOf (s : State) (dt : Nat) (p : Port) (rest : List Request) (i : Cyl) : (s.taken dt p rest).faultsOf i = s.faultsOf i := rfl
@[simp] theorem State.taken_senseOf (s : State) (dt : Nat) (p : Port) (rest : List Request) (i : Bank) : (s.taken dt p rest).senseOf i = s.senseOf i := rfl
@[simp] theorem State.replied_now (s : State) (p : Port) (r : Request) (x : Result) (d : Data) : (s.replied p r x d).now = s.now := rfl
@[simp] theorem State.replied_lastTaken (s : State) (p : Port) (r : Request) (x : Result) (d : Data) : (s.replied p r x d).lastTaken = s.lastTaken := rfl
@[simp] theorem State.replied_tracker (s : State) (p : Port) (r : Request) (x : Result) (d : Data) : (s.replied p r x d).tracker = s.tracker := rfl
@[simp] theorem State.replied_syncToCycle (s : State) (p : Port) (r : Request) (x : Result) (d : Data) : (s.replied p r x d).syncToCycle = s.syncToCycle := rfl
@[simp] theorem State.replied_syncToTable (s : State) (p : Port) (r : Request) (x : Result) (d : Data) : (s.replied p r x d).syncToTable = s.syncToTable := rfl
@[simp] theorem State.replied_toothNotices (s : State) (p : Port) (r : Request) (x : Result) (d : Data) : (s.replied p r x d).toothNotices = s.toothNotices := rfl
@[simp] theorem State.replied_plan (s : State) (p : Port) (r : Request) (x : Result) (d : Data) : (s.replied p r x d).plan = s.plan := rfl
@[simp] theorem State.replied_tables (s : State) (p : Port) (r : Request) (x : Result) (d : Data) : (s.replied p r x d).tables = s.tables := rfl
@[simp] theorem State.replied_lanes (s : State) (p : Port) (r : Request) (x : Result) (d : Data) : (s.replied p r x d).lanes = s.lanes := rfl
@[simp] theorem State.replied_service (s : State) (p : Port) (r : Request) (x : Result) (d : Data) : (s.replied p r x d).service = s.service := rfl
@[simp] theorem State.replied_banks (s : State) (p : Port) (r : Request) (x : Result) (d : Data) : (s.replied p r x d).banks = s.banks := rfl
@[simp] theorem State.replied_slots (s : State) (p : Port) (r : Request) (x : Result) (d : Data) : (s.replied p r x d).slots = s.slots := rfl
@[simp] theorem State.replied_mail (s : State) (p : Port) (r : Request) (x : Result) (d : Data) : (s.replied p r x d).mail = s.mail := rfl
@[simp] theorem State.replied_faults (s : State) (p : Port) (r : Request) (x : Result) (d : Data) : (s.replied p r x d).faults = s.faults := rfl
@[simp] theorem State.replied_lowGates (s : State) (p : Port) (r : Request) (x : Result) (d : Data) : (s.replied p r x d).lowGates = s.lowGates := rfl
@[simp] theorem State.replied_sense (s : State) (p : Port) (r : Request) (x : Result) (d : Data) : (s.replied p r x d).sense = s.sense := rfl
@[simp] theorem State.replied_camIn (s : State) (p : Port) (r : Request) (x : Result) (d : Data) : (s.replied p r x d).camIn = s.camIn := rfl
@[simp] theorem State.replied_pending (s : State) (p : Port) (r : Request) (x : Result) (d : Data) : (s.replied p r x d).pending = s.pending := rfl
@[simp] theorem State.replied_lane (s : State) (p : Port) (r : Request) (x : Result) (d : Data) (i : Cyl) : (s.replied p r x d).lane i = s.lane i := rfl
@[simp] theorem State.replied_bank (s : State) (p : Port) (r : Request) (x : Result) (d : Data) (i : Bank) : (s.replied p r x d).bank i = s.bank i := rfl
@[simp] theorem State.replied_slot (s : State) (p : Port) (r : Request) (x : Result) (d : Data) (i : Bank) : (s.replied p r x d).slot i = s.slot i := rfl
@[simp] theorem State.replied_mailOf (s : State) (p : Port) (r : Request) (x : Result) (d : Data) (i : Bank) : (s.replied p r x d).mailOf i = s.mailOf i := rfl
@[simp] theorem State.replied_faultsOf (s : State) (p : Port) (r : Request) (x : Result) (d : Data) (i : Cyl) : (s.replied p r x d).faultsOf i = s.faultsOf i := rfl
@[simp] theorem State.replied_senseOf (s : State) (p : Port) (r : Request) (x : Result) (d : Data) (i : Bank) : (s.replied p r x d).senseOf i = s.senseOf i := rfl

@[simp] theorem State.taken_port_self (s : State) (dt : Nat) (p : Port) (rest : List Request) :
    (s.taken dt p rest).port p = { s.port p with
      commands := rest, hold := (s.port p).hold && decide ((s.port p).resume < rest.length) } :=
  s.ports.get_set_self p _

theorem State.taken_port_ne (s : State) (dt : Nat) {p q : Port} (h : q ≠ p) (rest : List Request) :
    (s.taken dt p rest).port q = s.port q :=
  s.ports.get_set_ne h _

@[simp] theorem State.replied_port_self (s : State) (p : Port) (r : Request) (x : Result) (d : Data) :
    (s.replied p r x d).port p = { s.port p with replies := (s.port p).replies ++ [⟨r.code, r.tag, x, d⟩] } :=
  s.ports.get_set_self p _

theorem State.replied_port_ne (s : State) {p q : Port} (h : q ≠ p) (r : Request) (x : Result) (d : Data) :
    (s.replied p r x d).port q = s.port q :=
  s.ports.get_set_ne h _

/-- A reply is what `answer` places. -/
theorem State.answer_eq_replied (s : State) (p : Port) (r : Request) (x : Result) (d : Data) :
    s.answer p ⟨r.code, r.tag, x, d⟩ = s.replied p r x d := rfl

theorem PortState.holdAfterRemoval_eq (q : PortState) :
    q.holdAfterRemoval = { q with hold := q.hold && decide (q.resume < q.commands.length) } := by
  unfold PortState.holdAfterRemoval
  split
  · rename_i h
    simp [Nat.not_lt.2 h]
  · rename_i h
    simp [Nat.lt_of_not_le h]

/-- The head that is taken is the one `taken` names. -/
theorem State.takeHead_eq_taken {s : State} {p : Port} {r : Request} {rest : List Request}
    (h : (s.port p).commands = r :: rest) (dt : Nat) : (s.advance dt).takeHead p = s.taken dt p rest := by
  simp only [State.takeHead, PortState.holdAfterRemoval_eq, State.advance_port, h, List.tail_cons]
  rfl

/-! ## The rotation -/

theorem PortState.eligible_of {q : PortState} {r : Request} {rest : List Request} (h : q.commands = r :: rest)
    (k : q.replies.length < 16) : q.eligible = true := by
  simp [PortState.eligible, h, k]

theorem PortState.not_eligible_of {q : PortState} (h : q.commands = [] ∨ 16 ≤ q.replies.length) : q.eligible = false := by
  rcases h with h | h
  · simp [PortState.eligible, h]
  · simp [PortState.eligible, Nat.not_lt.2 h]

/-- The rotation chooses the request that `NextIs` names (R153). -/
theorem State.nextRequest_of_nextIs {s : State} {p : Port} {r : Request} {rest : List Request} (h : s.NextIs p r rest)
    (dt : Nat) : (s.advance dt).nextRequest = some (p, r) := by
  obtain ⟨h1, h2, h3⟩ := h
  have e := PortState.eligible_of h1 h2
  have key : (s.advance dt).nextPort = some p := by
    unfold State.nextPort
    simp only [State.advance_port, State.advance_lastTaken]
    rcases h3 with h3 | h3
    · simp [h3, e]
    · have n := PortState.not_eligible_of h3
      rcases Port.eq_or_other p s.lastTaken with l | l
      · simp [l, n, e]
      · simp [l, e]
  simp [State.nextRequest, key, h1]

/-- A taking of the request that is next, by the row whose code it has (R154). -/
theorem State.serve_of_nextIs {s : State} {p : Port} {r : Request} {rest : List Request} (h : s.NextIs p r rest)
    (dt : Nat) {mine : Byte → Bool} (hm : mine r.code = true) (act : Port → Params → State → Served) :
    (s.advance dt).serve mine act = .next ((act p r.params (s.taken dt p rest)).state.replied p r
      (act p r.params (s.taken dt p rest)).result (act p r.params (s.taken dt p rest)).data) := by
  simp only [State.serve, State.nextRequest_of_nextIs h dt, hm, if_true, State.takeRequest,
    State.takeHead_eq_taken h.1, State.answer_eq_replied]

/-- Every taking answers a next state. -/
theorem State.serve_next (s : State) (mine : Byte → Bool) (act : Port → Params → State → Served) :
    ∃ t, s.serve mine act = .next t ∧
      (t = s ∨ ∃ p r, s.nextRequest = some (p, r) ∧ mine r.code = true ∧ t = s.takeRequest p r act) := by
  unfold State.serve
  split
  · rename_i p r e
    split
    · exact ⟨_, rfl, .inr ⟨p, r, e, ‹_›, rfl⟩⟩
    · exact ⟨_, rfl, .inl rfl⟩
  · exact ⟨_, rfl, .inl rfl⟩

end Sys2Proof.Machine
end

