-- ==== Sys2Proof/Laws/Requests.lean ====
section
/-! SUPPORT. What the rule of each request leaves unchanged, said once. -/

namespace Sys2Proof.Machine

/-- An operation over a list of cylinders leaves what it leaves for each. -/
theorem foldl_keeps {α : Type} (f : State → α) (g : State → Cyl → State) (h : ∀ s c, f (g s c) = f s) (l : List Cyl) (s : State) :
    f (l.foldl g s) = f s := by
  induction l generalizing s with
  | nil => rfl
  | cons c l ih => exact (ih (g s c)).trans (h s c)

@[simp] theorem refuse_state (s : State) (x : Result) (n : Nat) : (refuse s x n).state = s := rfl

@[simp] theorem served_state (s : State) (d : Data) : (served s d).state = s := rfl

/-! ## Requests that change nothing -/

@[simp] theorem planRead_state (s : State) (p : Port) (ps : Params) : (planRead p ps s).state = s := by
  unfold planRead
  split <;> rfl

@[simp] theorem serviceRead_state (s : State) (p : Port) (ps : Params) : (serviceRead p ps s).state = s := rfl

@[simp] theorem flagsRead_state (s : State) (p : Port) (ps : Params) : (flagsRead p ps s).state = s := rfl

@[simp] theorem angleRead_state (s : State) (p : Port) (ps : Params) : (angleRead p ps s).state = s := rfl

/-! ## Requests that write -/

@[simp] theorem planWrite_keeps (s : State) (w : Option (Plan → Plan)) (x : Bool) :
    (planWrite s w x).state.now = s.now ∧ (planWrite s w x).state.tracker = s.tracker ∧ (planWrite s w x).state.syncToCycle = s.syncToCycle ∧
    (planWrite s w x).state.syncToTable = s.syncToTable ∧ (planWrite s w x).state.toothNotices = s.toothNotices ∧ (planWrite s w x).state.tables = s.tables ∧
    (planWrite s w x).state.lanes = s.lanes ∧ (planWrite s w x).state.service = s.service ∧ (planWrite s w x).state.banks = s.banks ∧
    (planWrite s w x).state.slots = s.slots ∧ (planWrite s w x).state.mail = s.mail ∧ (planWrite s w x).state.faults = s.faults ∧
    (planWrite s w x).state.lowGates = s.lowGates ∧ (planWrite s w x).state.sense = s.sense ∧ (planWrite s w x).state.camIn = s.camIn ∧
    (planWrite s w x).state.ports = s.ports ∧ (planWrite s w x).state.lastTaken = s.lastTaken ∧ (planWrite s w x).state.pending = s.pending := by
  unfold planWrite
  (repeat' split) <;> simp

@[simp] theorem planSetEngine_keeps (s : State) (p : Port) (ps : Params) :
    (planSetEngine p ps s).state.now = s.now ∧ (planSetEngine p ps s).state.tracker = s.tracker ∧ (planSetEngine p ps s).state.syncToCycle = s.syncToCycle ∧
    (planSetEngine p ps s).state.syncToTable = s.syncToTable ∧ (planSetEngine p ps s).state.toothNotices = s.toothNotices ∧ (planSetEngine p ps s).state.tables = s.tables ∧
    (planSetEngine p ps s).state.lanes = s.lanes ∧ (planSetEngine p ps s).state.service = s.service ∧ (planSetEngine p ps s).state.banks = s.banks ∧
    (planSetEngine p ps s).state.slots = s.slots ∧ (planSetEngine p ps s).state.mail = s.mail ∧ (planSetEngine p ps s).state.faults = s.faults ∧
    (planSetEngine p ps s).state.lowGates = s.lowGates ∧ (planSetEngine p ps s).state.sense = s.sense ∧ (planSetEngine p ps s).state.camIn = s.camIn ∧
    (planSetEngine p ps s).state.ports = s.ports ∧ (planSetEngine p ps s).state.lastTaken = s.lastTaken ∧ (planSetEngine p ps s).state.pending = s.pending := by
  simp [planSetEngine]

@[simp] theorem planSetCylinder_keeps (s : State) (p : Port) (ps : Params) :
    (planSetCylinder p ps s).state.now = s.now ∧ (planSetCylinder p ps s).state.tracker = s.tracker ∧ (planSetCylinder p ps s).state.syncToCycle = s.syncToCycle ∧
    (planSetCylinder p ps s).state.syncToTable = s.syncToTable ∧ (planSetCylinder p ps s).state.toothNotices = s.toothNotices ∧ (planSetCylinder p ps s).state.tables = s.tables ∧
    (planSetCylinder p ps s).state.lanes = s.lanes ∧ (planSetCylinder p ps s).state.service = s.service ∧ (planSetCylinder p ps s).state.banks = s.banks ∧
    (planSetCylinder p ps s).state.slots = s.slots ∧ (planSetCylinder p ps s).state.mail = s.mail ∧ (planSetCylinder p ps s).state.faults = s.faults ∧
    (planSetCylinder p ps s).state.lowGates = s.lowGates ∧ (planSetCylinder p ps s).state.sense = s.sense ∧ (planSetCylinder p ps s).state.camIn = s.camIn ∧
    (planSetCylinder p ps s).state.ports = s.ports ∧ (planSetCylinder p ps s).state.lastTaken = s.lastTaken ∧ (planSetCylinder p ps s).state.pending = s.pending := by
  simp [planSetCylinder]

@[simp] theorem planSetTiming_keeps (s : State) (p : Port) (ps : Params) :
    (planSetTiming p ps s).state.now = s.now ∧ (planSetTiming p ps s).state.tracker = s.tracker ∧ (planSetTiming p ps s).state.syncToCycle = s.syncToCycle ∧
    (planSetTiming p ps s).state.syncToTable = s.syncToTable ∧ (planSetTiming p ps s).state.toothNotices = s.toothNotices ∧ (planSetTiming p ps s).state.tables = s.tables ∧
    (planSetTiming p ps s).state.lanes = s.lanes ∧ (planSetTiming p ps s).state.service = s.service ∧ (planSetTiming p ps s).state.banks = s.banks ∧
    (planSetTiming p ps s).state.slots = s.slots ∧ (planSetTiming p ps s).state.mail = s.mail ∧ (planSetTiming p ps s).state.faults = s.faults ∧
    (planSetTiming p ps s).state.lowGates = s.lowGates ∧ (planSetTiming p ps s).state.sense = s.sense ∧ (planSetTiming p ps s).state.camIn = s.camIn ∧
    (planSetTiming p ps s).state.ports = s.ports ∧ (planSetTiming p ps s).state.lastTaken = s.lastTaken ∧ (planSetTiming p ps s).state.pending = s.pending := by
  simp [planSetTiming]

@[simp] theorem planSetKind_keeps (s : State) (p : Port) (ps : Params) :
    (planSetKind p ps s).state.now = s.now ∧ (planSetKind p ps s).state.tracker = s.tracker ∧ (planSetKind p ps s).state.syncToCycle = s.syncToCycle ∧
    (planSetKind p ps s).state.syncToTable = s.syncToTable ∧ (planSetKind p ps s).state.toothNotices = s.toothNotices ∧ (planSetKind p ps s).state.tables = s.tables ∧
    (planSetKind p ps s).state.lanes = s.lanes ∧ (planSetKind p ps s).state.service = s.service ∧ (planSetKind p ps s).state.banks = s.banks ∧
    (planSetKind p ps s).state.slots = s.slots ∧ (planSetKind p ps s).state.mail = s.mail ∧ (planSetKind p ps s).state.faults = s.faults ∧
    (planSetKind p ps s).state.lowGates = s.lowGates ∧ (planSetKind p ps s).state.sense = s.sense ∧ (planSetKind p ps s).state.camIn = s.camIn ∧
    (planSetKind p ps s).state.ports = s.ports ∧ (planSetKind p ps s).state.lastTaken = s.lastTaken ∧ (planSetKind p ps s).state.pending = s.pending := by
  simp [planSetKind]

@[simp] theorem planSetBank_keeps (s : State) (p : Port) (ps : Params) :
    (planSetBank p ps s).state.now = s.now ∧ (planSetBank p ps s).state.tracker = s.tracker ∧ (planSetBank p ps s).state.syncToCycle = s.syncToCycle ∧
    (planSetBank p ps s).state.syncToTable = s.syncToTable ∧ (planSetBank p ps s).state.toothNotices = s.toothNotices ∧ (planSetBank p ps s).state.tables = s.tables ∧
    (planSetBank p ps s).state.lanes = s.lanes ∧ (planSetBank p ps s).state.service = s.service ∧ (planSetBank p ps s).state.banks = s.banks ∧
    (planSetBank p ps s).state.slots = s.slots ∧ (planSetBank p ps s).state.mail = s.mail ∧ (planSetBank p ps s).state.faults = s.faults ∧
    (planSetBank p ps s).state.lowGates = s.lowGates ∧ (planSetBank p ps s).state.sense = s.sense ∧ (planSetBank p ps s).state.camIn = s.camIn ∧
    (planSetBank p ps s).state.ports = s.ports ∧ (planSetBank p ps s).state.lastTaken = s.lastTaken ∧ (planSetBank p ps s).state.pending = s.pending := by
  simp [planSetBank]

@[simp] theorem planSetProfile_keeps (s : State) (p : Port) (ps : Params) :
    (planSetProfile p ps s).state.now = s.now ∧ (planSetProfile p ps s).state.tracker = s.tracker ∧ (planSetProfile p ps s).state.syncToCycle = s.syncToCycle ∧
    (planSetProfile p ps s).state.syncToTable = s.syncToTable ∧ (planSetProfile p ps s).state.toothNotices = s.toothNotices ∧ (planSetProfile p ps s).state.tables = s.tables ∧
    (planSetProfile p ps s).state.lanes = s.lanes ∧ (planSetProfile p ps s).state.service = s.service ∧ (planSetProfile p ps s).state.banks = s.banks ∧
    (planSetProfile p ps s).state.slots = s.slots ∧ (planSetProfile p ps s).state.mail = s.mail ∧ (planSetProfile p ps s).state.faults = s.faults ∧
    (planSetProfile p ps s).state.lowGates = s.lowGates ∧ (planSetProfile p ps s).state.sense = s.sense ∧ (planSetProfile p ps s).state.camIn = s.camIn ∧
    (planSetProfile p ps s).state.ports = s.ports ∧ (planSetProfile p ps s).state.lastTaken = s.lastTaken ∧ (planSetProfile p ps s).state.pending = s.pending := by
  simp [planSetProfile]

@[simp] theorem planSetLimits_keeps (s : State) (p : Port) (ps : Params) :
    (planSetLimits p ps s).state.now = s.now ∧ (planSetLimits p ps s).state.tracker = s.tracker ∧ (planSetLimits p ps s).state.syncToCycle = s.syncToCycle ∧
    (planSetLimits p ps s).state.syncToTable = s.syncToTable ∧ (planSetLimits p ps s).state.toothNotices = s.toothNotices ∧ (planSetLimits p ps s).state.tables = s.tables ∧
    (planSetLimits p ps s).state.lanes = s.lanes ∧ (planSetLimits p ps s).state.service = s.service ∧ (planSetLimits p ps s).state.banks = s.banks ∧
    (planSetLimits p ps s).state.slots = s.slots ∧ (planSetLimits p ps s).state.mail = s.mail ∧ (planSetLimits p ps s).state.faults = s.faults ∧
    (planSetLimits p ps s).state.lowGates = s.lowGates ∧ (planSetLimits p ps s).state.sense = s.sense ∧ (planSetLimits p ps s).state.camIn = s.camIn ∧
    (planSetLimits p ps s).state.ports = s.ports ∧ (planSetLimits p ps s).state.lastTaken = s.lastTaken ∧ (planSetLimits p ps s).state.pending = s.pending := by
  simp [planSetLimits]

@[simp] theorem planClose_keeps (s : State) (p : Port) (ps : Params) :
    (planClose p ps s).state.now = s.now ∧ (planClose p ps s).state.toothNotices = s.toothNotices ∧ (planClose p ps s).state.tables = s.tables ∧
    (planClose p ps s).state.lanes = s.lanes ∧ (planClose p ps s).state.service = s.service ∧ (planClose p ps s).state.banks = s.banks ∧
    (planClose p ps s).state.slots = s.slots ∧ (planClose p ps s).state.mail = s.mail ∧ (planClose p ps s).state.faults = s.faults ∧
    (planClose p ps s).state.lowGates = s.lowGates ∧ (planClose p ps s).state.sense = s.sense ∧ (planClose p ps s).state.camIn = s.camIn ∧
    (planClose p ps s).state.lastTaken = s.lastTaken ∧ (planClose p ps s).state.pending = s.pending := by
  unfold planClose
  (repeat' split) <;> simp

@[simp] theorem planOpen_keeps (s : State) (p : Port) (ps : Params) :
    (planOpen p ps s).state.now = s.now ∧ (planOpen p ps s).state.tracker = s.tracker ∧ (planOpen p ps s).state.syncToCycle = s.syncToCycle ∧
    (planOpen p ps s).state.syncToTable = s.syncToTable ∧ (planOpen p ps s).state.toothNotices = s.toothNotices ∧ (planOpen p ps s).state.lanes = s.lanes ∧
    (planOpen p ps s).state.service = s.service ∧ (planOpen p ps s).state.banks = s.banks ∧ (planOpen p ps s).state.slots = s.slots ∧
    (planOpen p ps s).state.mail = s.mail ∧ (planOpen p ps s).state.faults = s.faults ∧ (planOpen p ps s).state.lowGates = s.lowGates ∧
    (planOpen p ps s).state.sense = s.sense ∧ (planOpen p ps s).state.camIn = s.camIn ∧ (planOpen p ps s).state.lastTaken = s.lastTaken ∧
    (planOpen p ps s).state.pending = s.pending := by
  unfold planOpen
  (repeat' split) <;> simp

@[simp] theorem slotWritten_keeps (s : State) (p : Port) (c : Cyl) (i : SlotIx) (u : Option Pulse) :
    (slotWritten s p c i u).state.now = s.now ∧ (slotWritten s p c i u).state.tracker = s.tracker ∧ (slotWritten s p c i u).state.syncToCycle = s.syncToCycle ∧
    (slotWritten s p c i u).state.syncToTable = s.syncToTable ∧ (slotWritten s p c i u).state.toothNotices = s.toothNotices ∧ (slotWritten s p c i u).state.plan = s.plan ∧
    (slotWritten s p c i u).state.lanes = s.lanes ∧ (slotWritten s p c i u).state.service = s.service ∧ (slotWritten s p c i u).state.banks = s.banks ∧
    (slotWritten s p c i u).state.slots = s.slots ∧ (slotWritten s p c i u).state.mail = s.mail ∧ (slotWritten s p c i u).state.faults = s.faults ∧
    (slotWritten s p c i u).state.lowGates = s.lowGates ∧ (slotWritten s p c i u).state.sense = s.sense ∧ (slotWritten s p c i u).state.camIn = s.camIn ∧
    (slotWritten s p c i u).state.ports = s.ports ∧ (slotWritten s p c i u).state.lastTaken = s.lastTaken ∧ (slotWritten s p c i u).state.pending = s.pending := by
  simp [slotWritten]

@[simp] theorem stagePulse_keeps (s : State) (p : Port) (ps : Params) :
    (stagePulse p ps s).state.now = s.now ∧ (stagePulse p ps s).state.tracker = s.tracker ∧ (stagePulse p ps s).state.syncToCycle = s.syncToCycle ∧
    (stagePulse p ps s).state.syncToTable = s.syncToTable ∧ (stagePulse p ps s).state.toothNotices = s.toothNotices ∧ (stagePulse p ps s).state.plan = s.plan ∧
    (stagePulse p ps s).state.lanes = s.lanes ∧ (stagePulse p ps s).state.service = s.service ∧ (stagePulse p ps s).state.banks = s.banks ∧
    (stagePulse p ps s).state.slots = s.slots ∧ (stagePulse p ps s).state.mail = s.mail ∧ (stagePulse p ps s).state.faults = s.faults ∧
    (stagePulse p ps s).state.lowGates = s.lowGates ∧ (stagePulse p ps s).state.sense = s.sense ∧ (stagePulse p ps s).state.camIn = s.camIn ∧
    (stagePulse p ps s).state.ports = s.ports ∧ (stagePulse p ps s).state.lastTaken = s.lastTaken ∧ (stagePulse p ps s).state.pending = s.pending := by
  simp only [stagePulse]
  (repeat' split) <;> simp

@[simp] theorem clearSlot_keeps (s : State) (p : Port) (ps : Params) :
    (clearSlot p ps s).state.now = s.now ∧ (clearSlot p ps s).state.tracker = s.tracker ∧ (clearSlot p ps s).state.syncToCycle = s.syncToCycle ∧
    (clearSlot p ps s).state.syncToTable = s.syncToTable ∧ (clearSlot p ps s).state.toothNotices = s.toothNotices ∧ (clearSlot p ps s).state.plan = s.plan ∧
    (clearSlot p ps s).state.lanes = s.lanes ∧ (clearSlot p ps s).state.service = s.service ∧ (clearSlot p ps s).state.banks = s.banks ∧
    (clearSlot p ps s).state.slots = s.slots ∧ (clearSlot p ps s).state.mail = s.mail ∧ (clearSlot p ps s).state.faults = s.faults ∧
    (clearSlot p ps s).state.lowGates = s.lowGates ∧ (clearSlot p ps s).state.sense = s.sense ∧ (clearSlot p ps s).state.camIn = s.camIn ∧
    (clearSlot p ps s).state.ports = s.ports ∧ (clearSlot p ps s).state.lastTaken = s.lastTaken ∧ (clearSlot p ps s).state.pending = s.pending := by
  simp only [clearSlot]
  (repeat' split) <;> simp

@[simp] theorem clearStage_keeps (s : State) (p : Port) (ps : Params) :
    (clearStage p ps s).state.now = s.now ∧ (clearStage p ps s).state.tracker = s.tracker ∧ (clearStage p ps s).state.syncToCycle = s.syncToCycle ∧
    (clearStage p ps s).state.syncToTable = s.syncToTable ∧ (clearStage p ps s).state.toothNotices = s.toothNotices ∧ (clearStage p ps s).state.plan = s.plan ∧
    (clearStage p ps s).state.lanes = s.lanes ∧ (clearStage p ps s).state.service = s.service ∧ (clearStage p ps s).state.banks = s.banks ∧
    (clearStage p ps s).state.slots = s.slots ∧ (clearStage p ps s).state.mail = s.mail ∧ (clearStage p ps s).state.faults = s.faults ∧
    (clearStage p ps s).state.lowGates = s.lowGates ∧ (clearStage p ps s).state.sense = s.sense ∧ (clearStage p ps s).state.camIn = s.camIn ∧
    (clearStage p ps s).state.ports = s.ports ∧ (clearStage p ps s).state.lastTaken = s.lastTaken ∧ (clearStage p ps s).state.pending = s.pending := by
  simp only [clearStage, onMask]
  split
  · split
    · refine ⟨foldl_keeps State.now _ (fun s c => by simp) _ _, foldl_keeps State.tracker _ (fun s c => by simp) _ _, foldl_keeps State.syncToCycle _ (fun s c => by simp) _ _, foldl_keeps State.syncToTable _ (fun s c => by simp) _ _, foldl_keeps State.toothNotices _ (fun s c => by simp) _ _, foldl_keeps State.plan _ (fun s c => by simp) _ _, foldl_keeps State.lanes _ (fun s c => by simp) _ _, foldl_keeps State.service _ (fun s c => by simp) _ _, foldl_keeps State.banks _ (fun s c => by simp) _ _, foldl_keeps State.slots _ (fun s c => by simp) _ _, foldl_keeps State.mail _ (fun s c => by simp) _ _, foldl_keeps State.faults _ (fun s c => by simp) _ _, foldl_keeps State.lowGates _ (fun s c => by simp) _ _, foldl_keeps State.sense _ (fun s c => by simp) _ _, foldl_keeps State.camIn _ (fun s c => by simp) _ _, foldl_keeps State.ports _ (fun s c => by simp) _ _, foldl_keeps State.lastTaken _ (fun s c => by simp) _ _, foldl_keeps State.pending _ (fun s c => by simp) _ _⟩
    · simp
  · simp

@[simp] theorem publish_keeps (s : State) (p : Port) (ps : Params) :
    (publish p ps s).state.now = s.now ∧ (publish p ps s).state.tracker = s.tracker ∧ (publish p ps s).state.syncToCycle = s.syncToCycle ∧
    (publish p ps s).state.syncToTable = s.syncToTable ∧ (publish p ps s).state.toothNotices = s.toothNotices ∧ (publish p ps s).state.plan = s.plan ∧
    (publish p ps s).state.lanes = s.lanes ∧ (publish p ps s).state.service = s.service ∧ (publish p ps s).state.banks = s.banks ∧
    (publish p ps s).state.slots = s.slots ∧ (publish p ps s).state.mail = s.mail ∧ (publish p ps s).state.faults = s.faults ∧
    (publish p ps s).state.lowGates = s.lowGates ∧ (publish p ps s).state.sense = s.sense ∧ (publish p ps s).state.camIn = s.camIn ∧
    (publish p ps s).state.lastTaken = s.lastTaken ∧ (publish p ps s).state.pending = s.pending := by
  simp only [publish, onMask]
  split
  · split
    · refine ⟨foldl_keeps State.now _ (fun s c => by simp) _ _, foldl_keeps State.tracker _ (fun s c => by simp) _ _, foldl_keeps State.syncToCycle _ (fun s c => by simp) _ _, foldl_keeps State.syncToTable _ (fun s c => by simp) _ _, foldl_keeps State.toothNotices _ (fun s c => by simp) _ _, foldl_keeps State.plan _ (fun s c => by simp) _ _, foldl_keeps State.lanes _ (fun s c => by simp) _ _, foldl_keeps State.service _ (fun s c => by simp) _ _, foldl_keeps State.banks _ (fun s c => by simp) _ _, foldl_keeps State.slots _ (fun s c => by simp) _ _, foldl_keeps State.mail _ (fun s c => by simp) _ _, foldl_keeps State.faults _ (fun s c => by simp) _ _, foldl_keeps State.lowGates _ (fun s c => by simp) _ _, foldl_keeps State.sense _ (fun s c => by simp) _ _, foldl_keeps State.camIn _ (fun s c => by simp) _ _, foldl_keeps State.lastTaken _ (fun s c => by simp) _ _, foldl_keeps State.pending _ (fun s c => by simp) _ _⟩
    · simp
  · simp

@[simp] theorem withdraw_keeps (s : State) (p : Port) (ps : Params) :
    (withdraw p ps s).state.now = s.now ∧ (withdraw p ps s).state.tracker = s.tracker ∧ (withdraw p ps s).state.syncToCycle = s.syncToCycle ∧
    (withdraw p ps s).state.syncToTable = s.syncToTable ∧ (withdraw p ps s).state.toothNotices = s.toothNotices ∧ (withdraw p ps s).state.plan = s.plan ∧
    (withdraw p ps s).state.lanes = s.lanes ∧ (withdraw p ps s).state.service = s.service ∧ (withdraw p ps s).state.banks = s.banks ∧
    (withdraw p ps s).state.slots = s.slots ∧ (withdraw p ps s).state.mail = s.mail ∧ (withdraw p ps s).state.faults = s.faults ∧
    (withdraw p ps s).state.lowGates = s.lowGates ∧ (withdraw p ps s).state.sense = s.sense ∧ (withdraw p ps s).state.camIn = s.camIn ∧
    (withdraw p ps s).state.lastTaken = s.lastTaken ∧ (withdraw p ps s).state.pending = s.pending := by
  simp only [withdraw, onMask]
  split
  · split
    · refine ⟨foldl_keeps State.now _ (fun s c => by simp) _ _, foldl_keeps State.tracker _ (fun s c => by simp) _ _, foldl_keeps State.syncToCycle _ (fun s c => by simp) _ _, foldl_keeps State.syncToTable _ (fun s c => by simp) _ _, foldl_keeps State.toothNotices _ (fun s c => by simp) _ _, foldl_keeps State.plan _ (fun s c => by simp) _ _, foldl_keeps State.lanes _ (fun s c => by simp) _ _, foldl_keeps State.service _ (fun s c => by simp) _ _, foldl_keeps State.banks _ (fun s c => by simp) _ _, foldl_keeps State.slots _ (fun s c => by simp) _ _, foldl_keeps State.mail _ (fun s c => by simp) _ _, foldl_keeps State.faults _ (fun s c => by simp) _ _, foldl_keeps State.lowGates _ (fun s c => by simp) _ _, foldl_keeps State.sense _ (fun s c => by simp) _ _, foldl_keeps State.camIn _ (fun s c => by simp) _ _, foldl_keeps State.lastTaken _ (fun s c => by simp) _ _, foldl_keeps State.pending _ (fun s c => by simp) _ _⟩
    · simp
  · simp

@[simp] theorem cutoutSet_keeps (s : State) (p : Port) (ps : Params) :
    (cutoutSet p ps s).state.now = s.now ∧ (cutoutSet p ps s).state.tracker = s.tracker ∧ (cutoutSet p ps s).state.syncToCycle = s.syncToCycle ∧
    (cutoutSet p ps s).state.syncToTable = s.syncToTable ∧ (cutoutSet p ps s).state.toothNotices = s.toothNotices ∧ (cutoutSet p ps s).state.plan = s.plan ∧
    (cutoutSet p ps s).state.lanes = s.lanes ∧ (cutoutSet p ps s).state.service = s.service ∧ (cutoutSet p ps s).state.banks = s.banks ∧
    (cutoutSet p ps s).state.slots = s.slots ∧ (cutoutSet p ps s).state.mail = s.mail ∧ (cutoutSet p ps s).state.faults = s.faults ∧
    (cutoutSet p ps s).state.lowGates = s.lowGates ∧ (cutoutSet p ps s).state.sense = s.sense ∧ (cutoutSet p ps s).state.camIn = s.camIn ∧
    (cutoutSet p ps s).state.ports = s.ports ∧ (cutoutSet p ps s).state.lastTaken = s.lastTaken ∧ (cutoutSet p ps s).state.pending = s.pending := by
  simp [cutoutSet]

@[simp] theorem reinstate_keeps (s : State) (p : Port) (ps : Params) :
    (reinstate p ps s).state.now = s.now ∧ (reinstate p ps s).state.tracker = s.tracker ∧ (reinstate p ps s).state.syncToCycle = s.syncToCycle ∧
    (reinstate p ps s).state.syncToTable = s.syncToTable ∧ (reinstate p ps s).state.toothNotices = s.toothNotices ∧ (reinstate p ps s).state.plan = s.plan ∧
    (reinstate p ps s).state.tables = s.tables ∧ (reinstate p ps s).state.lanes = s.lanes ∧ (reinstate p ps s).state.service = s.service ∧
    (reinstate p ps s).state.banks = s.banks ∧ (reinstate p ps s).state.slots = s.slots ∧ (reinstate p ps s).state.mail = s.mail ∧
    (reinstate p ps s).state.lowGates = s.lowGates ∧ (reinstate p ps s).state.sense = s.sense ∧ (reinstate p ps s).state.camIn = s.camIn ∧
    (reinstate p ps s).state.ports = s.ports ∧ (reinstate p ps s).state.lastTaken = s.lastTaken ∧ (reinstate p ps s).state.pending = s.pending := by
  simp only [reinstate]
  split <;> simp

@[simp] theorem servicePulse_keeps (s : State) (x : Sense) (p : Port) (ps : Params) :
    (servicePulse x p ps s).state.now = s.now ∧ (servicePulse x p ps s).state.tracker = s.tracker ∧ (servicePulse x p ps s).state.syncToCycle = s.syncToCycle ∧
    (servicePulse x p ps s).state.syncToTable = s.syncToTable ∧ (servicePulse x p ps s).state.toothNotices = s.toothNotices ∧ (servicePulse x p ps s).state.plan = s.plan ∧
    (servicePulse x p ps s).state.tables = s.tables ∧ (servicePulse x p ps s).state.camIn = s.camIn ∧ (servicePulse x p ps s).state.lastTaken = s.lastTaken ∧
    (servicePulse x p ps s).state.pending = s.pending := by
  simp only [servicePulse]
  split <;> simp

@[simp] theorem portSetup_keeps (s : State) (p : Port) (ps : Params) :
    (portSetup p ps s).state.now = s.now ∧ (portSetup p ps s).state.tracker = s.tracker ∧ (portSetup p ps s).state.syncToCycle = s.syncToCycle ∧
    (portSetup p ps s).state.syncToTable = s.syncToTable ∧ (portSetup p ps s).state.toothNotices = s.toothNotices ∧ (portSetup p ps s).state.plan = s.plan ∧
    (portSetup p ps s).state.tables = s.tables ∧ (portSetup p ps s).state.lanes = s.lanes ∧ (portSetup p ps s).state.service = s.service ∧
    (portSetup p ps s).state.banks = s.banks ∧ (portSetup p ps s).state.slots = s.slots ∧ (portSetup p ps s).state.mail = s.mail ∧
    (portSetup p ps s).state.faults = s.faults ∧ (portSetup p ps s).state.lowGates = s.lowGates ∧ (portSetup p ps s).state.sense = s.sense ∧
    (portSetup p ps s).state.camIn = s.camIn ∧ (portSetup p ps s).state.lastTaken = s.lastTaken ∧ (portSetup p ps s).state.pending = s.pending := by
  simp only [portSetup]
  split <;> simp

@[simp] theorem flagsClear_keeps (s : State) (p : Port) (ps : Params) :
    (flagsClear p ps s).state.now = s.now ∧ (flagsClear p ps s).state.tracker = s.tracker ∧ (flagsClear p ps s).state.syncToCycle = s.syncToCycle ∧
    (flagsClear p ps s).state.syncToTable = s.syncToTable ∧ (flagsClear p ps s).state.toothNotices = s.toothNotices ∧ (flagsClear p ps s).state.plan = s.plan ∧
    (flagsClear p ps s).state.tables = s.tables ∧ (flagsClear p ps s).state.lanes = s.lanes ∧ (flagsClear p ps s).state.service = s.service ∧
    (flagsClear p ps s).state.banks = s.banks ∧ (flagsClear p ps s).state.slots = s.slots ∧ (flagsClear p ps s).state.mail = s.mail ∧
    (flagsClear p ps s).state.faults = s.faults ∧ (flagsClear p ps s).state.lowGates = s.lowGates ∧ (flagsClear p ps s).state.sense = s.sense ∧
    (flagsClear p ps s).state.camIn = s.camIn ∧ (flagsClear p ps s).state.lastTaken = s.lastTaken ∧ (flagsClear p ps s).state.pending = s.pending := by
  simp [flagsClear]

@[simp] theorem cursorSet_keeps (s : State) (p : Port) (ps : Params) :
    (cursorSet p ps s).state.now = s.now ∧ (cursorSet p ps s).state.tracker = s.tracker ∧ (cursorSet p ps s).state.syncToCycle = s.syncToCycle ∧
    (cursorSet p ps s).state.syncToTable = s.syncToTable ∧ (cursorSet p ps s).state.toothNotices = s.toothNotices ∧ (cursorSet p ps s).state.plan = s.plan ∧
    (cursorSet p ps s).state.tables = s.tables ∧ (cursorSet p ps s).state.lanes = s.lanes ∧ (cursorSet p ps s).state.service = s.service ∧
    (cursorSet p ps s).state.banks = s.banks ∧ (cursorSet p ps s).state.slots = s.slots ∧ (cursorSet p ps s).state.mail = s.mail ∧
    (cursorSet p ps s).state.faults = s.faults ∧ (cursorSet p ps s).state.lowGates = s.lowGates ∧ (cursorSet p ps s).state.sense = s.sense ∧
    (cursorSet p ps s).state.camIn = s.camIn ∧ (cursorSet p ps s).state.lastTaken = s.lastTaken ∧ (cursorSet p ps s).state.pending = s.pending := by
  simp only [cursorSet]
  (repeat' split) <;> simp

@[simp] theorem cursorRead_keeps (s : State) (p : Port) (ps : Params) :
    (cursorRead p ps s).state.now = s.now ∧ (cursorRead p ps s).state.tracker = s.tracker ∧ (cursorRead p ps s).state.syncToCycle = s.syncToCycle ∧
    (cursorRead p ps s).state.syncToTable = s.syncToTable ∧ (cursorRead p ps s).state.toothNotices = s.toothNotices ∧ (cursorRead p ps s).state.plan = s.plan ∧
    (cursorRead p ps s).state.tables = s.tables ∧ (cursorRead p ps s).state.lanes = s.lanes ∧ (cursorRead p ps s).state.service = s.service ∧
    (cursorRead p ps s).state.banks = s.banks ∧ (cursorRead p ps s).state.slots = s.slots ∧ (cursorRead p ps s).state.mail = s.mail ∧
    (cursorRead p ps s).state.faults = s.faults ∧ (cursorRead p ps s).state.lowGates = s.lowGates ∧ (cursorRead p ps s).state.sense = s.sense ∧
    (cursorRead p ps s).state.camIn = s.camIn ∧ (cursorRead p ps s).state.lastTaken = s.lastTaken ∧ (cursorRead p ps s).state.pending = s.pending := by
  simp only [cursorRead]
  split <;> simp

/-! ## The cycle unit's taking of a sync change -/

@[simp] theorem State.cycleTakesSync_keeps (s : State) :
    (s.cycleTakesSync).now = s.now ∧ (s.cycleTakesSync).tracker = s.tracker ∧ (s.cycleTakesSync).syncToTable = s.syncToTable ∧
    (s.cycleTakesSync).toothNotices = s.toothNotices ∧ (s.cycleTakesSync).plan = s.plan ∧ (s.cycleTakesSync).tables = s.tables ∧
    (s.cycleTakesSync).service = s.service ∧ (s.cycleTakesSync).banks = s.banks ∧ (s.cycleTakesSync).slots = s.slots ∧
    (s.cycleTakesSync).mail = s.mail ∧ (s.cycleTakesSync).faults = s.faults ∧ (s.cycleTakesSync).lowGates = s.lowGates ∧
    (s.cycleTakesSync).sense = s.sense ∧ (s.cycleTakesSync).camIn = s.camIn ∧ (s.cycleTakesSync).lastTaken = s.lastTaken ∧
    (s.cycleTakesSync).pending = s.pending := by
  simp only [State.cycleTakesSync]
  split
  · simp
  · split
    · refine ⟨foldl_keeps State.now _ (fun s c => by simp) _ _, foldl_keeps State.tracker _ (fun s c => by simp) _ _, foldl_keeps State.syncToTable _ (fun s c => by simp) _ _, foldl_keeps State.toothNotices _ (fun s c => by simp) _ _, foldl_keeps State.plan _ (fun s c => by simp) _ _, foldl_keeps State.tables _ (fun s c => by simp) _ _, foldl_keeps State.service _ (fun s c => by simp) _ _, foldl_keeps State.banks _ (fun s c => by simp) _ _, foldl_keeps State.slots _ (fun s c => by simp) _ _, foldl_keeps State.mail _ (fun s c => by simp) _ _, foldl_keeps State.faults _ (fun s c => by simp) _ _, foldl_keeps State.lowGates _ (fun s c => by simp) _ _, foldl_keeps State.sense _ (fun s c => by simp) _ _, foldl_keeps State.camIn _ (fun s c => by simp) _ _, foldl_keeps State.lastTaken _ (fun s c => by simp) _ _, foldl_keeps State.pending _ (fun s c => by simp) _ _⟩
    · simp

end Sys2Proof.Machine
end

