-- ==== Sys2Proof/Laws/Exec.lean ====
section
/-! SUPPORT. Which commands write which block of State, and that every other command leaves it: one lemma for each block. A
proof about a block needs to look at the commands named here only. -/

namespace Sys2Proof.Machine

set_option linter.unusedSimpArgs false

/-- What a taking of the table engine keeps, if the request's rule keeps it. -/
theorem serve_keeps {α : Type} (f : State → α) (hport : ∀ (s : State) p q, f (s.setPort p q) = f s)
    (htake : ∀ (s : State) p, f (s.takeHead p) = f s) {s t : State} {mine : Byte → Bool} {act : Port → Params → State → Served}
    (h : s.serve mine act = .next t) (hact : ∀ p ps u, f (act p ps u).state = f u) : f t = f s := by
  obtain ⟨v, e, k⟩ := s.serve_next mine act
  rw [e] at h
  injection h with h
  subst h
  rcases k with rfl | ⟨p, r, -, -, rfl⟩
  · rfl
  · exact (hport _ _ _).trans ((hact _ _ _).trans (htake _ _))

/-- What a taking of the table engine leaves: nothing, or what the request's rule leaves, with the reply appended. -/
theorem serve_cases {s t : State} {mine : Byte → Bool} {act : Port → Params → State → Served}
    (h : s.serve mine act = .next t) :
    t = s ∨ ∃ p r, s.nextRequest = some (p, r) ∧ mine r.code = true ∧ t = s.takeRequest p r act := by
  obtain ⟨u, e, k⟩ := s.serve_next mine act
  rw [e] at h
  injection h with h
  subst h
  exact k

/-! ## Each request row is a taking -/

theorem exec_planSetEngine_eq (dt : Nat) (s : State) : exec (.planSetEngine dt) s = (s.advance dt).serve (· == 0x01#8) planSetEngine := rfl

theorem exec_planSetCylinder_eq (dt : Nat) (s : State) : exec (.planSetCylinder dt) s = (s.advance dt).serve (· == 0x02#8) planSetCylinder := rfl

theorem exec_planSetTiming_eq (dt : Nat) (s : State) : exec (.planSetTiming dt) s = (s.advance dt).serve (· == 0x03#8) planSetTiming := rfl

theorem exec_planSetKind_eq (dt : Nat) (s : State) : exec (.planSetKind dt) s = (s.advance dt).serve (· == 0x04#8) planSetKind := rfl

theorem exec_planSetBank_eq (dt : Nat) (s : State) : exec (.planSetBank dt) s = (s.advance dt).serve (· == 0x05#8) planSetBank := rfl

theorem exec_planSetProfile_eq (dt : Nat) (s : State) : exec (.planSetProfile dt) s = (s.advance dt).serve (· == 0x06#8) planSetProfile := rfl

theorem exec_planSetLimits_eq (dt : Nat) (s : State) : exec (.planSetLimits dt) s = (s.advance dt).serve (· == 0x07#8) planSetLimits := rfl

theorem exec_planRead_eq (dt : Nat) (s : State) : exec (.planRead dt) s = (s.advance dt).serve (· == 0x08#8) planRead := rfl

theorem exec_planClose_eq (dt : Nat) (s : State) : exec (.planClose dt) s = (s.advance dt).serve (· == 0x09#8) planClose := rfl

theorem exec_planOpen_eq (dt : Nat) (s : State) : exec (.planOpen dt) s = (s.advance dt).serve (· == 0x0A#8) planOpen := rfl

theorem exec_stagePulse_eq (dt : Nat) (s : State) : exec (.stagePulse dt) s = (s.advance dt).serve (· == 0x10#8) stagePulse := rfl

theorem exec_clearSlot_eq (dt : Nat) (s : State) : exec (.clearSlot dt) s = (s.advance dt).serve (· == 0x11#8) clearSlot := rfl

theorem exec_clearStage_eq (dt : Nat) (s : State) : exec (.clearStage dt) s = (s.advance dt).serve (· == 0x12#8) clearStage := rfl

theorem exec_publish_eq (dt : Nat) (s : State) : exec (.publish dt) s = (s.advance dt).serve (· == 0x13#8) publish := rfl

theorem exec_withdraw_eq (dt : Nat) (s : State) : exec (.withdraw dt) s = (s.advance dt).serve (· == 0x14#8) withdraw := rfl

theorem exec_cutoutSet_eq (dt : Nat) (s : State) : exec (.cutoutSet dt) s = (s.advance dt).serve (· == 0x18#8) cutoutSet := rfl

theorem exec_reinstate_eq (dt : Nat) (s : State) : exec (.reinstate dt) s = (s.advance dt).serve (· == 0x19#8) reinstate := rfl

theorem exec_serviceRead_eq (dt : Nat) (s : State) : exec (.serviceRead dt) s = (s.advance dt).serve (· == 0x1D#8) serviceRead := rfl

theorem exec_portSetup_eq (dt : Nat) (s : State) : exec (.portSetup dt) s = (s.advance dt).serve (· == 0x20#8) portSetup := rfl

theorem exec_flagsRead_eq (dt : Nat) (s : State) : exec (.flagsRead dt) s = (s.advance dt).serve (· == 0x28#8) flagsRead := rfl

theorem exec_flagsClear_eq (dt : Nat) (s : State) : exec (.flagsClear dt) s = (s.advance dt).serve (· == 0x29#8) flagsClear := rfl

theorem exec_cursorSet_eq (dt : Nat) (s : State) : exec (.cursorSet dt) s = (s.advance dt).serve (· == 0x2A#8) cursorSet := rfl

theorem exec_cursorRead_eq (dt : Nat) (s : State) : exec (.cursorRead dt) s = (s.advance dt).serve (· == 0x2B#8) cursorRead := rfl

theorem exec_angleRead_eq (dt : Nat) (s : State) : exec (.angleRead dt) s = (s.advance dt).serve (· == 0x2C#8) angleRead := rfl

theorem exec_servicePulse_eq (dt : Nat) (x : Sense) (s : State) :
    exec (.servicePulse dt x) s = (s.advance dt).serve (· == 0x1C#8) (servicePulse x) := rfl

theorem exec_unknownRequest_eq (dt : Nat) (s : State) :
    exec (.unknownRequest dt) s = (s.advance dt).serve (fun c => !knownCode c) fun _ _ s => refuse s .unknown := rfl

/-! ## Which commands write which block -/

/-- The commands that write `tracker`. -/
def writesTracker : Instr → Bool
  | .powerOnReset .. => true
  | .toothArrival .. => true
  | .stallExpiry .. => true
  | .armingPoint .. => true
  | .planClose .. => true
  | _ => false

theorem exec_tracker {c : Instr} {s t : State} (h : exec c s = .next t) (hc : writesTracker c = false) : t.tracker = s.tracker := by
  cases c <;> first
    | exact Bool.noConfusion (show true = false from hc)
    | (injection h with h; subst h; simp)
    | (simp only [exec_planSetEngine_eq, exec_planSetCylinder_eq, exec_planSetTiming_eq, exec_planSetKind_eq,
        exec_planSetBank_eq, exec_planSetProfile_eq, exec_planSetLimits_eq, exec_planRead_eq, exec_planClose_eq,
        exec_planOpen_eq, exec_stagePulse_eq, exec_clearSlot_eq, exec_clearStage_eq, exec_publish_eq,
        exec_withdraw_eq, exec_cutoutSet_eq, exec_reinstate_eq, exec_serviceRead_eq, exec_portSetup_eq,
        exec_flagsRead_eq, exec_flagsClear_eq, exec_cursorSet_eq, exec_cursorRead_eq, exec_angleRead_eq,
        exec_servicePulse_eq, exec_unknownRequest_eq] at h
       exact (serve_keeps State.tracker (fun _ _ _ => rfl) (fun _ _ => rfl) h (by simp)).trans rfl)

/-- The commands that write `plan`. -/
def writesPlan : Instr → Bool
  | .powerOnReset .. => true
  | .syncChangeTableEngine .. => true
  | .transactionComplete .. => true
  | .noneFrame .. => true
  | .portReset .. => true
  | .planSetEngine .. => true
  | .planSetCylinder .. => true
  | .planSetTiming .. => true
  | .planSetKind .. => true
  | .planSetBank .. => true
  | .planSetProfile .. => true
  | .planSetLimits .. => true
  | .planClose .. => true
  | .planOpen .. => true
  | _ => false

theorem exec_plan {c : Instr} {s t : State} (h : exec c s = .next t) (hc : writesPlan c = false) : t.plan = s.plan := by
  cases c <;> first
    | exact Bool.noConfusion (show true = false from hc)
    | (injection h with h; subst h; simp)
    | (simp only [exec_planSetEngine_eq, exec_planSetCylinder_eq, exec_planSetTiming_eq, exec_planSetKind_eq,
        exec_planSetBank_eq, exec_planSetProfile_eq, exec_planSetLimits_eq, exec_planRead_eq, exec_planClose_eq,
        exec_planOpen_eq, exec_stagePulse_eq, exec_clearSlot_eq, exec_clearStage_eq, exec_publish_eq,
        exec_withdraw_eq, exec_cutoutSet_eq, exec_reinstate_eq, exec_serviceRead_eq, exec_portSetup_eq,
        exec_flagsRead_eq, exec_flagsClear_eq, exec_cursorSet_eq, exec_cursorRead_eq, exec_angleRead_eq,
        exec_servicePulse_eq, exec_unknownRequest_eq] at h
       exact (serve_keeps State.plan (fun _ _ _ => rfl) (fun _ _ => rfl) h (by simp)).trans rfl)

/-- The commands that write `tables`. -/
def writesTables : Instr → Bool
  | .powerOnReset .. => true
  | .armingNotice .. => true
  | .planOpen .. => true
  | .stagePulse .. => true
  | .clearSlot .. => true
  | .clearStage .. => true
  | .publish .. => true
  | .withdraw .. => true
  | .cutoutSet .. => true
  | _ => false

theorem exec_tables {c : Instr} {s t : State} (h : exec c s = .next t) (hc : writesTables c = false) : t.tables = s.tables := by
  cases c <;> first
    | exact Bool.noConfusion (show true = false from hc)
    | (injection h with h; subst h; simp)
    | (simp only [exec_planSetEngine_eq, exec_planSetCylinder_eq, exec_planSetTiming_eq, exec_planSetKind_eq,
        exec_planSetBank_eq, exec_planSetProfile_eq, exec_planSetLimits_eq, exec_planRead_eq, exec_planClose_eq,
        exec_planOpen_eq, exec_stagePulse_eq, exec_clearSlot_eq, exec_clearStage_eq, exec_publish_eq,
        exec_withdraw_eq, exec_cutoutSet_eq, exec_reinstate_eq, exec_serviceRead_eq, exec_portSetup_eq,
        exec_flagsRead_eq, exec_flagsClear_eq, exec_cursorSet_eq, exec_cursorRead_eq, exec_angleRead_eq,
        exec_servicePulse_eq, exec_unknownRequest_eq] at h
       exact (serve_keeps State.tables (fun _ _ _ => rfl) (fun _ _ => rfl) h (by simp)).trans rfl)

/-- The commands that write `lanes`. -/
def writesLanes : Instr → Bool
  | .powerOnReset .. => true
  | .armingPoint .. => true
  | .armingNotice .. => true
  | .armingAnswer .. => true
  | .startPoint .. => true
  | .syncChange .. => true
  | .toothArrivalNotice .. => true
  | .deadlineExpiry .. => true
  | .dwellEnd .. => true
  | .grantOffer .. => true
  | .cycleDriveEnd .. => true
  | .cycleReleaseComplete .. => true
  | .isolationEvent .. => true
  | .queueEntry .. => true
  | .queueRemoval .. => true
  | .offerAccept .. => true
  | .offerRefusal .. => true
  | .bankCut .. => true
  | .serviceDriveEnd .. => true
  | .serviceReleaseComplete .. => true
  | .servicePulse .. => true
  | _ => false

theorem exec_lanes {c : Instr} {s t : State} (h : exec c s = .next t) (hc : writesLanes c = false) : t.lanes = s.lanes := by
  cases c <;> first
    | exact Bool.noConfusion (show true = false from hc)
    | (injection h with h; subst h; simp)
    | (simp only [exec_planSetEngine_eq, exec_planSetCylinder_eq, exec_planSetTiming_eq, exec_planSetKind_eq,
        exec_planSetBank_eq, exec_planSetProfile_eq, exec_planSetLimits_eq, exec_planRead_eq, exec_planClose_eq,
        exec_planOpen_eq, exec_stagePulse_eq, exec_clearSlot_eq, exec_clearStage_eq, exec_publish_eq,
        exec_withdraw_eq, exec_cutoutSet_eq, exec_reinstate_eq, exec_serviceRead_eq, exec_portSetup_eq,
        exec_flagsRead_eq, exec_flagsClear_eq, exec_cursorSet_eq, exec_cursorRead_eq, exec_angleRead_eq,
        exec_servicePulse_eq, exec_unknownRequest_eq] at h
       exact (serve_keeps State.lanes (fun _ _ _ => rfl) (fun _ _ => rfl) h (by simp)).trans rfl)

/-- The commands that write `service`. -/
def writesService : Instr → Bool
  | .powerOnReset .. => true
  | .servicePulse .. => true
  | .serviceDriveEnd .. => true
  | .serviceReleaseComplete .. => true
  | _ => false

theorem exec_service {c : Instr} {s t : State} (h : exec c s = .next t) (hc : writesService c = false) : t.service = s.service := by
  cases c <;> first
    | exact Bool.noConfusion (show true = false from hc)
    | (injection h with h; subst h; simp)
    | (simp only [exec_planSetEngine_eq, exec_planSetCylinder_eq, exec_planSetTiming_eq, exec_planSetKind_eq,
        exec_planSetBank_eq, exec_planSetProfile_eq, exec_planSetLimits_eq, exec_planRead_eq, exec_planClose_eq,
        exec_planOpen_eq, exec_stagePulse_eq, exec_clearSlot_eq, exec_clearStage_eq, exec_publish_eq,
        exec_withdraw_eq, exec_cutoutSet_eq, exec_reinstate_eq, exec_serviceRead_eq, exec_portSetup_eq,
        exec_flagsRead_eq, exec_flagsClear_eq, exec_cursorSet_eq, exec_cursorRead_eq, exec_angleRead_eq,
        exec_servicePulse_eq, exec_unknownRequest_eq] at h
       exact (serve_keeps State.service (fun _ _ _ => rfl) (fun _ _ => rfl) h (by simp)).trans rfl)

/-- The commands that write `banks`. -/
def writesBanks : Instr → Bool
  | .powerOnReset .. => true
  | .queueEntry .. => true
  | .queueRemoval .. => true
  | .offerAccept .. => true
  | .offerRefusal .. => true
  | .boostEnd .. => true
  | .bankDriveEnd .. => true
  | .bankReleaseComplete .. => true
  | .rechargeExpiry .. => true
  | .preemptExpiry .. => true
  | .servicePulse .. => true
  | _ => false

theorem exec_banks {c : Instr} {s t : State} (h : exec c s = .next t) (hc : writesBanks c = false) : t.banks = s.banks := by
  cases c <;> first
    | exact Bool.noConfusion (show true = false from hc)
    | (injection h with h; subst h; simp)
    | (simp only [exec_planSetEngine_eq, exec_planSetCylinder_eq, exec_planSetTiming_eq, exec_planSetKind_eq,
        exec_planSetBank_eq, exec_planSetProfile_eq, exec_planSetLimits_eq, exec_planRead_eq, exec_planClose_eq,
        exec_planOpen_eq, exec_stagePulse_eq, exec_clearSlot_eq, exec_clearStage_eq, exec_publish_eq,
        exec_withdraw_eq, exec_cutoutSet_eq, exec_reinstate_eq, exec_serviceRead_eq, exec_portSetup_eq,
        exec_flagsRead_eq, exec_flagsClear_eq, exec_cursorSet_eq, exec_cursorRead_eq, exec_angleRead_eq,
        exec_servicePulse_eq, exec_unknownRequest_eq] at h
       exact (serve_keeps State.banks (fun _ _ _ => rfl) (fun _ _ => rfl) h (by simp)).trans rfl)

/-- The commands that write `slots`. -/
def writesSlots : Instr → Bool
  | .powerOnReset .. => true
  | .offerAccept .. => true
  | .driverCut .. => true
  | .peak .. => true
  | .holdChop .. => true
  | .floorEntry .. => true
  | .floorExit .. => true
  | .holdLossExpiry .. => true
  | .peakLimitExpiry .. => true
  | .trip .. => true
  | .durationExpiry .. => true
  | .zero .. => true
  | .releaseLimitExpiry .. => true
  | .servicePulse .. => true
  | _ => false

theorem exec_slots {c : Instr} {s t : State} (h : exec c s = .next t) (hc : writesSlots c = false) : t.slots = s.slots := by
  cases c <;> first
    | exact Bool.noConfusion (show true = false from hc)
    | (injection h with h; subst h; simp)
    | (simp only [exec_planSetEngine_eq, exec_planSetCylinder_eq, exec_planSetTiming_eq, exec_planSetKind_eq,
        exec_planSetBank_eq, exec_planSetProfile_eq, exec_planSetLimits_eq, exec_planRead_eq, exec_planClose_eq,
        exec_planOpen_eq, exec_stagePulse_eq, exec_clearSlot_eq, exec_clearStage_eq, exec_publish_eq,
        exec_withdraw_eq, exec_cutoutSet_eq, exec_reinstate_eq, exec_serviceRead_eq, exec_portSetup_eq,
        exec_flagsRead_eq, exec_flagsClear_eq, exec_cursorSet_eq, exec_cursorRead_eq, exec_angleRead_eq,
        exec_servicePulse_eq, exec_unknownRequest_eq] at h
       exact (serve_keeps State.slots (fun _ _ _ => rfl) (fun _ _ => rfl) h (by simp)).trans rfl)

/-- The commands that write `mail`. -/
def writesMail : Instr → Bool
  | .powerOnReset .. => true
  | .cycleDriveEnd .. => true
  | .cycleReleaseComplete .. => true
  | .isolationEvent .. => true
  | .offerAccept .. => true
  | .boostEnd .. => true
  | .bankDriveEnd .. => true
  | .bankReleaseComplete .. => true
  | .preemptExpiry .. => true
  | .bankCut .. => true
  | .driverCut .. => true
  | .peak .. => true
  | .holdLossExpiry .. => true
  | .peakLimitExpiry .. => true
  | .trip .. => true
  | .durationExpiry .. => true
  | .zero .. => true
  | .releaseLimitExpiry .. => true
  | .serviceDriveEnd .. => true
  | .serviceReleaseComplete .. => true
  | .servicePulse .. => true
  | _ => false

theorem exec_mail {c : Instr} {s t : State} (h : exec c s = .next t) (hc : writesMail c = false) : t.mail = s.mail := by
  cases c <;> first
    | exact Bool.noConfusion (show true = false from hc)
    | (injection h with h; subst h; simp)
    | (simp only [exec_planSetEngine_eq, exec_planSetCylinder_eq, exec_planSetTiming_eq, exec_planSetKind_eq,
        exec_planSetBank_eq, exec_planSetProfile_eq, exec_planSetLimits_eq, exec_planRead_eq, exec_planClose_eq,
        exec_planOpen_eq, exec_stagePulse_eq, exec_clearSlot_eq, exec_clearStage_eq, exec_publish_eq,
        exec_withdraw_eq, exec_cutoutSet_eq, exec_reinstate_eq, exec_serviceRead_eq, exec_portSetup_eq,
        exec_flagsRead_eq, exec_flagsClear_eq, exec_cursorSet_eq, exec_cursorRead_eq, exec_angleRead_eq,
        exec_servicePulse_eq, exec_unknownRequest_eq] at h
       exact (serve_keeps State.mail (fun _ _ _ => rfl) (fun _ _ => rfl) h (by simp)).trans rfl)

/-- The commands that write `faults`. -/
def writesFaults : Instr → Bool
  | .powerOnReset .. => true
  | .offerAccept .. => true
  | .driverCut .. => true
  | .peak .. => true
  | .holdLossExpiry .. => true
  | .peakLimitExpiry .. => true
  | .trip .. => true
  | .durationExpiry .. => true
  | .zero .. => true
  | .releaseLimitExpiry .. => true
  | .servicePulse .. => true
  | .reinstate .. => true
  | _ => false

theorem exec_faults {c : Instr} {s t : State} (h : exec c s = .next t) (hc : writesFaults c = false) : t.faults = s.faults := by
  cases c <;> first
    | exact Bool.noConfusion (show true = false from hc)
    | (injection h with h; subst h; simp)
    | (simp only [exec_planSetEngine_eq, exec_planSetCylinder_eq, exec_planSetTiming_eq, exec_planSetKind_eq,
        exec_planSetBank_eq, exec_planSetProfile_eq, exec_planSetLimits_eq, exec_planRead_eq, exec_planClose_eq,
        exec_planOpen_eq, exec_stagePulse_eq, exec_clearSlot_eq, exec_clearStage_eq, exec_publish_eq,
        exec_withdraw_eq, exec_cutoutSet_eq, exec_reinstate_eq, exec_serviceRead_eq, exec_portSetup_eq,
        exec_flagsRead_eq, exec_flagsClear_eq, exec_cursorSet_eq, exec_cursorRead_eq, exec_angleRead_eq,
        exec_servicePulse_eq, exec_unknownRequest_eq] at h
       exact (serve_keeps State.faults (fun _ _ _ => rfl) (fun _ _ => rfl) h (by simp)).trans rfl)

/-- The commands that write `lowGates`. -/
def writesLowGates : Instr → Bool
  | .powerOnReset .. => true
  | .offerAccept .. => true
  | .driverCut .. => true
  | .holdLossExpiry .. => true
  | .peakLimitExpiry .. => true
  | .trip .. => true
  | .durationExpiry .. => true
  | .releaseLimitExpiry .. => true
  | .servicePulse .. => true
  | _ => false

theorem exec_lowGates {c : Instr} {s t : State} (h : exec c s = .next t) (hc : writesLowGates c = false) : t.lowGates = s.lowGates := by
  cases c <;> first
    | exact Bool.noConfusion (show true = false from hc)
    | (injection h with h; subst h; simp)
    | (simp only [exec_planSetEngine_eq, exec_planSetCylinder_eq, exec_planSetTiming_eq, exec_planSetKind_eq,
        exec_planSetBank_eq, exec_planSetProfile_eq, exec_planSetLimits_eq, exec_planRead_eq, exec_planClose_eq,
        exec_planOpen_eq, exec_stagePulse_eq, exec_clearSlot_eq, exec_clearStage_eq, exec_publish_eq,
        exec_withdraw_eq, exec_cutoutSet_eq, exec_reinstate_eq, exec_serviceRead_eq, exec_portSetup_eq,
        exec_flagsRead_eq, exec_flagsClear_eq, exec_cursorSet_eq, exec_cursorRead_eq, exec_angleRead_eq,
        exec_servicePulse_eq, exec_unknownRequest_eq] at h
       exact (serve_keeps State.lowGates (fun _ _ _ => rfl) (fun _ _ => rfl) h (by simp)).trans rfl)

end Sys2Proof.Machine
end

