-- ==== Sys2Proof/Laws/Banks.lean ====
section
/-! SUPPORT. What the bank arbiter's operations do, one lemma for each. -/

namespace Sys2Proof.Machine

/-- Taking the oldest message of a lane whose outbox is known. -/
theorem State.popOutbox_cons {s : State} {c : Cyl} {m : BankMessage} {more : List BankMessage} (dt : Nat)
    (h : (s.lane c).outbox = m :: more) :
    (s.advance dt).popOutbox c = { s with now := s.now + dt, lanes := s.lanes.set c { s.lane c with outbox := more } } := by
  simp only [State.lane] at h
  simp [State.popOutbox, State.setLane, State.advance, State.lane, h]

theorem State.message_cons {s : State} {c : Cyl} {m : BankMessage} {more : List BankMessage} (dt : Nat)
    (h : (s.lane c).outbox = m :: more) : (s.advance dt).message c = some m := by
  simp only [State.lane] at h
  simp [State.message, State.advance, State.lane, h]

/-- When an entry joins (R107). -/
theorem State.joinWaits_false_iff (s : State) (b : Bank) (due turn : Nat) :
    s.joinWaits b due turn = false ↔ JoinsFirst s b due turn := by
  simp only [State.joinWaits, List.any_eq_false, cyl_mem_all, forall_const, JoinsFirst, List.any_eq_true, not_exists, not_and]
  refine forall_congr' fun d => ⟨fun h e n hm hd => ?_, fun h m hm => ?_⟩
  · have := h _ hm
    simp only [BankMessage.joinsBefore, true_and, hd, decide_eq_true_eq] at this
    omega
  · cases m <;> simp only [BankMessage.joinsBefore, Bool.false_eq_true, not_false_eq_true, decide_eq_true_eq]
    rintro ⟨rfl, hd, hn⟩
    have := h _ _ hm hd
    omega

/-- The two readings of R113 agree. -/
theorem BankRecord.qualifies_eq (r : BankRecord) : r.qualifies = QualifiesAgainst r := by
  funext e
  rcases r with ⟨s, h, _, _, _, _⟩
  cases s <;> rcases h with _ | _ | _ <;> rfl

/-- An IDLE bank offers itself to the head of its queue (R109). -/
theorem BankRecord.makeOffer_eq (r : BankRecord) : r.makeOffer =
    { r with offer := if r.state = .idle ∧ r.offer = none then r.queue.head? else r.offer } := by
  unfold BankRecord.makeOffer
  split <;> rfl

/-- Qualifying looks at state and holder only. -/
theorem qualifiesAgainst_mk (r : BankRecord) (re : Recharge) (q : List QueueEntry) (o : Option QueueEntry)
    (p : Option PreemptTimer) : QualifiesAgainst ⟨r.state, r.holder, re, q, o, p⟩ = QualifiesAgainst r := rfl

/-- Where a joining entry stands (R107). -/
theorem joinQueue_split (e : QueueEntry) : ∀ q, QueueOrdered q → ∃ before after, q = before ++ after ∧
    (∀ x ∈ before, e.rank < x.rank ∨ (x.rank = e.rank ∧ x.due ≤ e.due)) ∧
    (∀ x ∈ after, x.rank < e.rank ∨ (x.rank = e.rank ∧ e.due < x.due)) ∧ joinQueue e q = before ++ e :: after
  | [], _ => ⟨[], [], rfl, by simp, by simp, rfl⟩
  | x :: rest, h => by
    rw [QueueOrdered, List.pairwise_cons] at h
    by_cases hp : e.precedes x
    · refine ⟨[], x :: rest, rfl, by simp, ?_, by simp [joinQueue, hp]⟩
      simp [QueueEntry.precedes] at hp
      intro y hy
      rcases List.mem_cons.1 hy with rfl | hy
      · omega
      · have := h.1 y hy; omega
    · obtain ⟨b, a, e1, h1, h2, h3⟩ := joinQueue_split e rest h.2
      refine ⟨x :: b, a, by simp [e1], ?_, h2, by simp [joinQueue, hp, h3]⟩
      simp [QueueEntry.precedes] at hp
      intro y hy
      rcases List.mem_cons.1 hy with rfl | hy
      · omega
      · exact h1 y hy

theorem mem_joinQueue {e x : QueueEntry} {q : List QueueEntry} : x ∈ joinQueue e q ↔ x = e ∨ x ∈ q := by
  induction q with
  | nil => simp [joinQueue]
  | cons y rest ih =>
    by_cases h : e.precedes y
    · simp [joinQueue, h]
    · simp [joinQueue, h, ih]
      tauto

/-- Joining keeps the order of the queue (R107). -/
theorem joinQueue_ordered {e : QueueEntry} {q : List QueueEntry} (h : QueueOrdered q) : QueueOrdered (joinQueue e q) := by
  obtain ⟨b, a, rfl, h1, h2, h3⟩ := joinQueue_split e q h
  rw [h3]
  unfold QueueOrdered at *
  rw [List.pairwise_append] at h ⊢
  refine ⟨h.1, List.pairwise_cons.2 ⟨fun x hx => ?_, h.2.1⟩, fun x hx y hy => ?_⟩
  · have := h2 x hx; omega
  · rcases List.mem_cons.1 hy with rfl | hy
    · have := h1 x hx; omega
    · exact h.2.2 x hx y hy

/-- Leaving keeps the order of the queue (R108). -/
theorem leaveQueue_ordered {id : PulseId} {q : List QueueEntry} (h : QueueOrdered q) : QueueOrdered (leaveQueue id q) :=
  List.Pairwise.sublist List.filter_sublist h

/-- An entry joins (R107, R109, R113). -/
theorem BankRecord.join_eq (r : BankRecord) (e : QueueEntry) (now delay : Nat) : r.join e now delay = { r with
    queue := joinQueue e r.queue
    offer := if r.state = .idle ∧ r.offer = none then (joinQueue e r.queue).head? else r.offer
    preempt := if r.preempt = none ∧ QualifiesAgainst r e then some ⟨now + delay, e⟩ else r.preempt } := by
  simp only [BankRecord.join, BankRecord.claim, BankRecord.makeOffer_eq, BankRecord.qualifies_eq]
  simp only [qualifiesAgainst_mk]
  by_cases h : r.preempt = none <;> by_cases k : QualifiesAgainst r e = true <;> simp [h, k]

/-- A removal (R108, R112, R114). -/
theorem BankRecord.remove_eq (r : BankRecord) (id : PulseId) : r.remove id = { r with
    queue := r.queue.filter fun x => decide (x.id ≠ id)
    offer := if r.state = .idle ∧ (r.offer.filter fun x => decide (x.id ≠ id)) = none then
      (r.queue.filter fun x => decide (x.id ≠ id)).head? else r.offer.filter fun x => decide (x.id ≠ id)
    preempt := match r.preempt with
      | some t => if t.starter.id = id then
          ((r.queue.filter fun x => decide (x.id ≠ id)).find? fun x => decide (QualifiesAgainst r x)).map fun x => { t with starter := x }
        else some t
      | none => none } := by
  rcases r with ⟨st, ho, re, q, o, p⟩
  rcases p with _ | p
  · simp only [BankRecord.remove, BankRecord.makeOffer_eq, BankRecord.restart, leaveQueue]
  · simp only [BankRecord.remove, BankRecord.makeOffer_eq, BankRecord.restart, leaveQueue, BankRecord.qualifies_eq,
      Bool.decide_eq_true, qualifiesAgainst_mk ⟨st, ho, re, q, o, some p⟩]
    split
    · rw [qualifiesAgainst_mk ⟨st, ho, re, q, o, some p⟩]
    · rfl

/-- A refused offer (R111). -/
theorem BankRecord.refused_eq (r : BankRecord) (id : PulseId) : r.refused id = { r with
    queue := r.queue.filter fun x => decide (x.id ≠ id)
    offer := if r.state = .idle then (r.queue.filter fun x => decide (x.id ≠ id)).head? else none } := by
  by_cases k : r.state = .idle <;> simp [BankRecord.refused, BankRecord.makeOffer, leaveQueue, k]

/-- A grant (R110, R113). -/
theorem BankRecord.grant_eq (r : BankRecord) (id : PulseId) (now delay : Nat) (h : r.preempt = none) :
    r.grant id now delay = {
      state := .held, holder := some (.scheduled id), recharge := .waiting
      queue := r.queue.filter fun x => decide (x.id ≠ id)
      offer := none
      preempt := ((r.queue.filter fun x => decide (x.id ≠ id)).find? fun y => decide (kindRank id.kind + 2 ≤ y.rank)).map fun y =>
        ⟨now + delay, y⟩ } := by
  simp only [BankRecord.grant, leaveQueue]
  have e : (⟨.held, some (.scheduled id), .waiting, r.queue.filter fun x => decide (x.id ≠ id), none, r.preempt⟩ :
      BankRecord).qualifies = fun y => decide (kindRank id.kind + 2 ≤ y.rank) := rfl
  rw [e]
  cases k : (r.queue.filter fun x => decide (x.id ≠ id)).find? fun y => decide (kindRank id.kind + 2 ≤ y.rank) with
  | none => simp [h]
  | some y =>
    have := List.find?_some k
    simp only [BankRecord.claim, BankRecord.qualifies, h, this]
    simp

end Sys2Proof.Machine
end

