-- ==== Sys2Proof/Laws/Cycle.lean ====
section
/-! SUPPORT. What the cycle unit's operations on records and lanes do, one lemma for each. -/

namespace Sys2Proof.Machine

/-- Raising flags on ports of origin touches the ports alone. -/
theorem State.raiseOrigins_eq (s : State) (f : Flag) (ps : List ArmedPulse) :
    s.raiseOrigins f ps = { s with ports := (s.raiseOrigins f ps).ports } := by
  have h : ∃ q, s.raiseOrigins f ps = { s with ports := q } := by
    unfold State.raiseOrigins
    induction ps generalizing s with
    | nil => exact ⟨s.ports, rfl⟩
    | cons a l ih =>
      obtain ⟨q, e⟩ := ih (s.raise a.merged.port f)
      exact ⟨q, by rw [List.foldl_cons, e]; rfl⟩
  obtain ⟨q, e⟩ := h
  rw [e]

/-! ## States of pulses -/

theorem PulseState.inQueue_iff {x : PulseState} : x.inQueue = true ↔ ∃ a d, x = .due a d .bank := by
  cases x with
  | due a d b => cases b <;> simp [PulseState.inQueue]
  | _ => simp [PulseState.inQueue]

theorem PulseState.gated_iff {x : PulseState} : x.gated = true ↔ ∃ a d, x = .due a d .cylinder := by
  cases x with
  | due a d b => cases b <;> simp [PulseState.gated]
  | _ => simp [PulseState.gated]

theorem PulseState.drives_iff {x : PulseState} : x.drives = true ↔ ∃ granted, x = .energized granted := by
  cases x <;> simp [PulseState.drives]

theorem PulseState.waits_iff {x : PulseState} : x.waits = true ↔ x = .pending ∨ ∃ a d b, x = .due a d b := by
  cases x <;> simp [PulseState.waits]

/-- A pulse waits, drives or has its outcome, and only one of them. -/
theorem PulseState.final_iff {x : PulseState} : x.final = true ↔ x.waits = false ∧ x.drives = false := by
  simp [PulseState.final]

theorem ArmedPulse.drop_eq (reason : DropReason) (p : ArmedPulse) :
    p.drop reason = if p.state.waits then { p with state := .dropped reason } else p := rfl

theorem ArmedPulse.drop_waits (reason : DropReason) (p : ArmedPulse) : (p.drop reason).state.waits = false := by
  unfold ArmedPulse.drop
  split
  · rfl
  · exact Bool.eq_false_iff.2 ‹_›

theorem ArmedPulse.drop_drives (reason : DropReason) (p : ArmedPulse) : (p.drop reason).state.drives = p.state.drives := by
  unfold ArmedPulse.drop
  split
  · rename_i h
    rcases PulseState.waits_iff.1 h with e | ⟨a, d, b, e⟩ <;> rw [e] <;> rfl
  · rfl

/-! ## Records and lanes -/

theorem Record.complete_iff {r : Record} : r.complete = true ↔ ¬r.Open := by
  simp [Record.complete, Record.Open]

theorem Record.drives_iff {r : Record} : r.drives = true ↔ ∃ p ∈ r.pulses, p.state.drives = true := by
  simp [Record.drives]

/-- Closing the current record (R99). -/
theorem Lane.closeCurrent_eq {l : Lane} {r : Record} (h : l.current = some r) :
    l.closeCurrent = if r.Open then l else { l with current := none, last := some r } := by
  unfold Lane.closeCurrent
  rw [h]
  by_cases k : r.Open
  · simp [k, Record.complete_iff]
  · simp [k, Record.complete_iff.2 k]

theorem Lane.closeCurrent_none {l : Lane} (h : l.current = none) : l.closeCurrent = l := by
  unfold Lane.closeCurrent
  rw [h]

/-- Closing the superseded record (R99). -/
theorem Lane.closeSuperseded_eq {l : Lane} {r : Record} (h : l.superseded = some r) :
    l.closeSuperseded = if r.Open then l else { l with superseded := none, last := some r } := by
  unfold Lane.closeSuperseded
  rw [h]
  by_cases k : r.Open
  · simp [k, Record.complete_iff]
  · simp [k, Record.complete_iff.2 k]

theorem Lane.closeSuperseded_none {l : Lane} (h : l.superseded = none) : l.closeSuperseded = l := by
  unfold Lane.closeSuperseded
  rw [h]

/-- The gate is open (R91). -/
theorem Lane.gateOpen_iff {l : Lane} {r : Record} (h : l.current = some r) :
    l.gateOpen = true ↔ l.injector = .ready ∧ ∀ q ∈ r.pulses, ∀ a d, q.state ≠ .due a d .bank := by
  simp only [Lane.gateOpen, h, Option.elim_some, Bool.and_eq_true, decide_eq_true_eq, Bool.not_eq_true',
    List.any_eq_false]
  refine and_congr_right fun _ => forall_congr' fun q => forall_congr' fun _ => ?_
  rw [PulseState.inQueue_iff]
  simp

theorem Record.firstGated_none {r : Record} (h : ∀ q ∈ r.pulses, ∀ a d, q.state ≠ .due a d .cylinder) :
    r.firstGated = none := by
  unfold Record.firstGated
  rw [List.find?_eq_none]
  rintro ⟨q, i⟩ hq
  have m : q ∈ r.pulses := by
    have e := List.mem_zipIdx hq
    simp only [zero_add] at e
    exact e.2.2 ▸ List.getElem_mem _
  rw [PulseState.gated_iff]
  rintro ⟨a, d, e⟩
  exact h q m a d e

/-- The earliest gated pulse is the one at the least position (R91). -/
theorem Record.firstGated_some {r : Record} {i : Nat} {q : ArmedPulse} {a d : Nat} (h : r.pulses[i]? = some q)
    (hs : q.state = .due a d .cylinder)
    (hb : ∀ j u, j < i → r.pulses[j]? = some u → ∀ a d, u.state ≠ .due a d .cylinder) : r.firstGated = some (q, i) := by
  unfold Record.firstGated
  rw [List.find?_eq_some_iff_getElem]
  obtain ⟨hi, e⟩ := List.getElem?_eq_some_iff.1 h
  refine ⟨by simp [hs, PulseState.gated], i, by simpa using hi, by simp [e], ?_⟩
  intro j hj
  have hj' : j < r.pulses.length := by omega
  simp only [List.getElem_zipIdx, zero_add, Bool.not_eq_true', ← Bool.not_eq_true, PulseState.gated_iff]
  rintro ⟨a, d, e⟩
  exact hb j _ hj (by simp [hj']) a d e

/-- The next turn is past those of all entries on their way (R107). -/
theorem State.lt_nextTurn {s : State} {c : Cyl} {b : Bank} {e : QueueEntry} {turn : Nat}
    (h : .entry b e turn ∈ (s.lane c).outbox) : turn < s.nextTurn := by
  have le : ∀ (l : List Nat) (m : Nat), m ≤ l.foldl max m ∧ ∀ x ∈ l, x ≤ l.foldl max m := by
    intro l
    induction l with
    | nil => simp
    | cons y rest ih =>
      intro m
      have := ih (max m y)
      simp only [List.foldl_cons, List.mem_cons, forall_eq_or_imp]
      exact ⟨by omega, by omega, this.2⟩
  refine Nat.lt_succ_of_le ((le _ 0).2 turn (List.mem_flatMap.2 ⟨c, cyl_mem_all c, List.mem_map.2 ⟨_, h, rfl⟩⟩))

/-- What an open gate hands over (R91). -/
theorem Lane.handOver_open {l : Lane} {r : Record} {i : Nat} {q : ArmedPulse} {a d : Nat} (b : Bank) (c : Cyl) (turn : Nat)
    (hc : l.current = some r) (ho : l.gateOpen = true) (h : r.pulses[i]? = some q) (hs : q.state = .due a d .cylinder)
    (hb : ∀ j u, j < i → r.pulses[j]? = some u → ∀ a d, u.state ≠ .due a d .cylinder) :
    l.handOver b c turn = { l with
      current := some { r with pulses := r.pulses.set i { q with state := .due a d .bank } }
      outbox := l.outbox ++ [.entry b ⟨⟨c, r.cycle, i, q.merged.pulse.kind⟩, a⟩ turn] } := by
  unfold Lane.handOver
  rw [if_pos ho]
  simp only [hc, Record.firstGated_some h hs hb]
  simp [Lane.enqueue, Lane.send, Record.setPulse, ArmedPulse.enterQueue, hs, Record.pulseId, PulseState.dueTime]

theorem Lane.handOver_shut {l : Lane} (b : Bank) (c : Cyl) (turn : Nat) (h : l.gateOpen = false) : l.handOver b c turn = l := by
  unfold Lane.handOver
  simp [h]

theorem Lane.handOver_none {l : Lane} (b : Bank) (c : Cyl) (turn : Nat) (h : l.current = none) : l.handOver b c turn = l := by
  unfold Lane.handOver
  simp [h]

end Sys2Proof.Machine
end

