-- ==== Sys2Proof/Laws/Operands.lean ====
section
/-! SUPPORT. Operands and packing: the codes invert, a field stays below its width, and refusal numbers as reply data. -/

namespace Sys2Proof.Machine

@[simp] theorem cylOf_num (c : Cyl) : cylOf c.num = some c := by cases c <;> rfl

theorem cylOf_eq_some {n : Nat} {c : Cyl} : cylOf n = some c ↔ c.num = n := by
  constructor
  · unfold cylOf
    split <;> intro h <;> first | (injection h with h; subst h; rfl) | cases h
  · rintro rfl
    exact cylOf_num c

theorem cylOf_eq_none {n : Nat} (h : ∀ c : Cyl, n ≠ c.num) : cylOf n = none := by
  cases e : cylOf n with
  | none => rfl
  | some c => exact absurd (cylOf_eq_some.1 e).symm (h c)

theorem Cyl.num_pos (c : Cyl) : 1 ≤ c.num := by cases c <;> decide

theorem Cyl.num_le (c : Cyl) : c.num ≤ 8 := by cases c <;> decide

/-- A number from 1 to 8 is a cylinder's. -/
theorem exists_cyl {n : Nat} (h : 1 ≤ n) (k : n ≤ 8) : ∃ c : Cyl, c.num = n := by
  cases e : cylOf n with
  | some c => exact ⟨c, cylOf_eq_some.1 e⟩
  | none =>
    have : n = 1 ∨ n = 2 ∨ n = 3 ∨ n = 4 ∨ n = 5 ∨ n = 6 ∨ n = 7 ∨ n = 8 := by omega
    rcases this with rfl | rfl | rfl | rfl | rfl | rfl | rfl | rfl <;> cases e

@[simp] theorem kindOf_kindCode (k : Kind) : kindOf (kindCode k) = some k := by cases k <;> rfl

theorem kindOf_eq_some {n : Nat} {k : Kind} : kindOf n = some k ↔ kindCode k = n := by
  constructor
  · unfold kindOf
    split <;> intro h <;> first | (injection h with h; subst h; rfl) | cases h
  · rintro rfl
    exact kindOf_kindCode k

theorem kindOf_eq_none {n : Nat} (h : ∀ k : Kind, n ≠ kindCode k) : kindOf n = none := by
  cases e : kindOf n with
  | none => rfl
  | some k => exact absurd (kindOf_eq_some.1 e).symm (h k)

@[simp] theorem fourOf_num (i : Four) : fourOf i.num = i := by cases i <;> rfl

theorem Four.num_lt (i : Four) : i.num < 4 := by cases i <;> decide

/-- A number below 4 is an index's. -/
theorem exists_four {n : Nat} (h : n < 4) : ∃ i : Four, i.num = n := by
  have : n = 0 ∨ n = 1 ∨ n = 2 ∨ n = 3 := by omega
  rcases this with rfl | rfl | rfl | rfl
  exacts [⟨.i0, rfl⟩, ⟨.i1, rfl⟩, ⟨.i2, rfl⟩, ⟨.i3, rfl⟩]

@[simp] theorem viewOf_viewCode (v : View) : viewOf (viewCode v) = some v := by cases v <;> rfl

/-- A field stays below its width. -/
theorem field_lt (ps : Params) (lo width : Nat) : field ps lo width < 2 ^ width := Nat.mod_lt _ (Nat.two_pow_pos _)

/-- Packed fields stay below the sum of their widths. -/
theorem packBits_lt (fields : List (Nat × Nat)) : packBits fields < 2 ^ (fields.map Prod.fst).sum := by
  induction fields with
  | nil => simp [packBits]
  | cons x xs ih =>
    simp only [packBits, List.map_cons, List.sum_cons, Nat.pow_add]
    have h := Nat.mod_lt x.2 (Nat.two_pow_pos x.1)
    have k := Nat.mul_le_mul_left (2 ^ x.1) ih
    rw [Nat.mul_succ] at k
    omega

@[simp] theorem dataBytes_zero : dataBytes [0] = 0 := by decide

/-- The reply data of a refusal with a number. -/
theorem dataBytes_singleton {n : Nat} (h : n < 256) : dataBytes [n] = BitVec.ofNat 48 n := by
  simp [dataBytes, packData, packBits, Nat.mod_eq_of_lt h]

/-- Bit `i` of byte `j` of a frame. -/
theorem wireByte_testBit (w : Wire) (j : Nat) {i : Nat} (h : i < 8) :
    (wireByte w j).toNat.testBit i = w.getLsbD (8 * (11 - j) + i) := by
  simp only [wireByte, BitVec.toNat_ofNat, BitVec.getLsbD]
  rw [Nat.testBit_mod_two_pow, Nat.testBit_div_two_pow]
  simp [h, Nat.add_comm]

/-! ## The first check that fails -/

theorem firstFailureFrom_eq_none {n : Nat} {l : List Bool} : firstFailureFrom n l = none ↔ ∀ b ∈ l, b = true := by
  induction l generalizing n with
  | nil => simp [firstFailureFrom]
  | cons b l ih => cases b <;> simp [firstFailureFrom, ih]

theorem firstFailureFrom_eq_some {n m : Nat} {l : List Bool} : firstFailureFrom n l = some m ↔
    n ≤ m ∧ l[m - n]? = some false ∧ ∀ j, j < m - n → l[j]? = some true := by
  induction l generalizing n with
  | nil => simp [firstFailureFrom]
  | cons b l ih =>
    cases b
    · simp only [firstFailureFrom, Bool.false_eq_true, if_false, Option.some.injEq]
      constructor
      · rintro rfl
        simp
      · rintro ⟨h, _, k⟩
        by_contra e
        have := k 0 (by omega)
        simp at this
    · simp only [firstFailureFrom, if_true, ih]
      constructor
      · rintro ⟨h, k, g⟩
        refine ⟨by omega, ?_, fun j hj => ?_⟩
        · have e : m - n = (m - (n + 1)) + 1 := by omega
          rw [e]
          simpa using k
        · cases j with
          | zero => rfl
          | succ j => simpa using g j (by omega)
      · rintro ⟨h, k, g⟩
        have hm : n ≠ m := by
          rintro rfl
          simp at k
        have e : m - n = (m - (n + 1)) + 1 := by omega
        refine ⟨by omega, ?_, fun j hj => ?_⟩
        · rw [e] at k
          simpa using k
        · simpa using g (j + 1) (by omega)

theorem firstFailure_eq_none {l : List Bool} : firstFailure l = none ↔ ∀ b ∈ l, b = true := firstFailureFrom_eq_none

/-- Check `m`, the first being 1, is the first that fails. -/
theorem firstFailure_eq_some {m : Nat} {l : List Bool} : firstFailure l = some m ↔
    1 ≤ m ∧ l[m - 1]? = some false ∧ ∀ j, j < m - 1 → l[j]? = some true := firstFailureFrom_eq_some

end Sys2Proof.Machine
end

