-- ==== Sys2Proof/Laws/Plan.lean ====
section
/-! SUPPORT. The engine plan: ranges, the ten checks of PLAN_CLOSE as propositions, what the requests on the plan answer. -/

namespace Sys2Proof.Machine

theorem within_iff (lo hi v : Nat) : within lo hi v = true ↔ lo ≤ v ∧ v ≤ hi := by simp [within]

@[simp] theorem four_mem_all (i : Four) : i ∈ Four.all := by cases i <;> decide

theorem Plan.mem_cylinders {pl : Plan} {c : Cyl} : c ∈ pl.cylinders ↔ c.num ≤ pl.engine.val.count := by
  simp only [Plan.cylinders, List.mem_filter, cyl_mem_all, true_and, decide_eq_true_eq]
  exact Iff.rfl

/-- Check `n` of the list of ten is the check `n` of R38. -/
theorem Plan.closeChecks_get (pl : Plan) {n : Nat} (h : 1 ≤ n) (k : n ≤ 10) :
    ∃ b, pl.closeChecks[n - 1]? = some b ∧ (b = true ↔ pl.ClosePasses n) := by
  have : n = 1 ∨ n = 2 ∨ n = 3 ∨ n = 4 ∨ n = 5 ∨ n = 6 ∨ n = 7 ∨ n = 8 ∨ n = 9 ∨ n = 10 := by omega
  rcases this with rfl | rfl | rfl | rfl | rfl | rfl | rfl | rfl | rfl | rfl <;> refine ⟨_, rfl, ?_⟩
  · exact Iff.rfl
  · exact Iff.rfl
  · exact Iff.rfl
  · simp only [Plan.ClosePasses, Bool.and_eq_true]
    constructor
    · rintro ⟨⟨⟨a, b⟩, c⟩, d⟩ k
      cases k
      exacts [a, b, c, d]
    · intro h
      exact ⟨⟨⟨h .main, h .pilot⟩, h .after⟩, h .post⟩
  · simp [Plan.ClosePasses, Plan.mem_cylinders]
  · simp [Plan.ClosePasses, Plan.mem_cylinders, Plan.bankOf]
  · exact Iff.rfl
  · simp only [Plan.ClosePasses, List.all_eq_true, Plan.mem_cylinders, Bool.or_eq_true, decide_eq_true_eq]
    constructor
    · intro h c d hc hd hn
      exact (h c hc d hd).resolve_left hn
    · intro h c hc d hd
      by_cases e : c = d
      · exact .inl e
      · exact .inr (h c d hc hd e)
  · simp only [Plan.ClosePasses, List.all_eq_true, Plan.mem_cylinders, decide_eq_true_eq]
    exact Iff.rfl
  · simp [Plan.ClosePasses]

/-- Every check passes exactly where no number is answered (R38). -/
theorem Plan.firstFailure_closeChecks_none {pl : Plan} :
    firstFailure pl.closeChecks = none ↔ ∀ n, 1 ≤ n → n ≤ 10 → pl.ClosePasses n := by
  rw [firstFailure_eq_none]
  constructor
  · intro h n h1 h2
    obtain ⟨b, e, i⟩ := pl.closeChecks_get h1 h2
    exact i.1 (h b (List.mem_of_getElem? e))
  · intro h b hb
    obtain ⟨j, hj⟩ := List.getElem?_of_mem hb
    have lt : j < 10 := (List.getElem?_eq_some_iff.1 hj).1
    obtain ⟨b', e, i⟩ := pl.closeChecks_get (n := j + 1) (by omega) (by omega)
    rw [Nat.add_sub_cancel, hj] at e
    injection e with e
    rw [e]
    exact i.2 (h _ (by omega) (by omega))

/-- The number answered is that of the first check that fails (R38). -/
theorem Plan.firstFailure_closeChecks_some {pl : Plan} {n : Nat} (h : 1 ≤ n) (k : n ≤ 10)
    (before : ∀ m, 1 ≤ m → m < n → pl.ClosePasses m) (fails : ¬pl.ClosePasses n) :
    firstFailure pl.closeChecks = some n := by
  rw [firstFailure_eq_some]
  obtain ⟨b, e, i⟩ := pl.closeChecks_get h k
  refine ⟨h, ?_, fun j hj => ?_⟩
  · cases b
    · exact e
    · exact absurd (i.1 rfl) fails
  · obtain ⟨b, e, i⟩ := pl.closeChecks_get (n := j + 1) (by omega) (by omega)
    rw [Nat.add_sub_cancel] at e
    rw [e, i.2 (before _ (by omega) (by omega))]

/-- What a PLAN_SET_* request on an instance answers (R29), `fields` being its ranges as a proposition. -/
theorem planWrite_answer {s : State} {dt : Nat} {p : Port} {rest : List Request} {r : Request} {w : Plan → Plan} {x : Bool}
    {fields : Prop} [Decidable fields] (h : x = true ↔ fields) :
    let v := planWrite (s.taken dt p rest) (some w) x
    v.state.replied p r v.result v.data =
      if s.plan.closed then (s.taken dt p rest).replied p r .planClosed 0
      else if fields then ({ s.taken dt p rest with plan := w s.plan } : State).replied p r .ok 0
      else (s.taken dt p rest).replied p r .range 0 := by
  simp only [planWrite, State.taken_plan]
  by_cases hc : s.plan.closed = true
  · simp [hc, refuse]
  · by_cases k : fields
    · simp [hc, h.2 k, k, served, State.setPlan]
    · have : x = false := by
        cases x
        · rfl
        · exact absurd (h.1 rfl) k
      simp [hc, this, k, refuse]

/-- What a PLAN_SET_* request with an index out of range answers (R29). -/
theorem planWrite_none_answer {s : State} {dt : Nat} {p : Port} {rest : List Request} {r : Request} {x : Bool} :
    let v := planWrite (s.taken dt p rest) none x
    v.state.replied p r v.result v.data =
      (s.taken dt p rest).replied p r (if s.plan.closed then .planClosed else .range) 0 := by
  simp only [planWrite, State.taken_plan]
  by_cases hc : s.plan.closed = true <;> simp [hc, refuse]

/-! ## The conditions of PLAN_OPEN (R40) -/

theorem Lane.pulsesUnderWay_iff (l : Lane) : l.pulsesUnderWay = true ↔ PulsesUnderWay l := by
  unfold Lane.pulsesUnderWay PulsesUnderWay
  rcases h : l.arming with _ | a
  · simp
  · rcases k : a.answer with _ | x <;> simp [k]

theorem Lane.hasOpenRecord_false_iff (l : Lane) : l.hasOpenRecord = false ↔ NoOpenRecord l := by
  simp [Lane.hasOpenRecord, NoOpenRecord]

theorem State.noOpenRecord_iff (s : State) : s.noOpenRecord = true ↔ ∀ c, NoOpenRecord (s.lane c) := by
  simp [State.noOpenRecord, ← Lane.hasOpenRecord_false_iff]

theorem State.noPulsesUnderWay_iff (s : State) : s.noPulsesUnderWay = true ↔ ∀ c, ¬PulsesUnderWay (s.lane c) := by
  simp [State.noPulsesUnderWay, ← Lane.pulsesUnderWay_iff]

/-- Condition 3 of PLAN_OPEN (R40, log 27). -/
theorem State.nothingArmed_iff (s : State) :
    (s.noOpenRecord && s.noPulsesUnderWay) = true ↔ ∀ c, NothingArmed (s.lane c) := by
  rw [Bool.and_eq_true, s.noOpenRecord_iff, s.noPulsesUnderWay_iff, ← forall_and]
  rfl

theorem BankMessage.accepts_iff (b : Bank) (m : BankMessage) :
    m.accepts b = true ↔ ∃ id profile duration, m = .accept b id profile duration := by
  cases m <;> simp [BankMessage.accepts]

theorem State.bankAtRest_iff (s : State) (b : Bank) : s.bankAtRest b = true ↔ BankAtRest s b := by
  simp only [State.bankAtRest, BankAtRest, Bool.and_eq_true, decide_eq_true_eq, Bool.not_eq_true', List.any_eq_false,
    cyl_mem_all, forall_const]
  refine and_congr_right fun _ => forall_congr' fun c => ?_
  simp only [List.any_eq_true, BankMessage.accepts_iff, not_exists, not_and]
  constructor
  · intro h id profile duration hm
    exact h _ hm id profile duration rfl
  · rintro h _ hm id profile duration rfl
    exact h id profile duration hm

end Sys2Proof.Machine
end

