-- ==== Sys2Proof/Laws/Service.lean ====
section
/-! SUPPORT. What a SERVICE_PULSE leaves: nothing where a test fails, a started drive otherwise. -/

namespace Sys2Proof.Machine

theorem firstRefusal_none {l : List (Bool × Result × Nat)} : firstRefusal l = none ↔ ∀ x ∈ l, x.1 = true := by
  induction l with
  | nil => simp [firstRefusal]
  | cons x rest ih =>
    obtain ⟨ok, r⟩ := x
    cases ok <;> simp [firstRefusal, ih]

/-- A test that fails, with every test before it passing, is the one that refuses. -/
theorem firstRefusal_some {before after : List (Bool × Result × Nat)} {r : Result × Nat} (h : ∀ x ∈ before, x.1 = true) :
    firstRefusal (before ++ (false, r) :: after) = some r := by
  induction before with
  | nil => simp [firstRefusal]
  | cons x rest ih =>
    obtain ⟨ok, r'⟩ := x
    have : ok = true := h (ok, r') (by simp)
    subst this
    simp [firstRefusal, ih fun x hx => h x (by simp [hx])]

/-- The state a SERVICE_PULSE leaves: a pulse starts only with none in progress, a CLOSED plan, the tracker STOPPED and the
cylinder's bank at rest (R175). -/
theorem servicePulse_state (x : Sense) (p : Port) (ps : Params) (u : State) :
    (servicePulse x p ps u).state = u ∨
      ∃ c profile duration, BankAtRest u (u.plan.bankOf c) ∧ u.service.inProgress = none ∧
        u.plan.closed = true ∧ u.tracker.sync = .stopped ∧
        (servicePulse x p ps u).state = u.startService p c profile duration x := by
  unfold servicePulse
  dsimp only
  split
  · rename_i c h1 h2
    rw [firstRefusal_none] at h1
    simp [State.serviceTests, h2] at h1
    exact .inr ⟨c, _, _, (u.bankAtRest_iff _).1 h1.2.2.2.2.2.2.2, h1.1, h1.2.1, h1.2.2.2.2.2.1, rfl⟩
  · exact .inl rfl
  · exact .inl rfl

end Sys2Proof.Machine
end

