-- ==== Sys2Proof/Laws/Driver.lean ====
section
/-! SUPPORT. What the driver sequencer's operations do, one lemma for each. -/

namespace Sys2Proof.Machine

/-- The state as a drive end leaves it, before a release that completes at once (R133). -/
def State.driveOver (s : State) (b : Bank) (d : Drive) (cause : Cause) : State :=
  { s with
    slots := s.slots.set b ((s.slot b).endDrive d cause s.now)
    lowGates := s.lowGates.set d.cyl false
    mail := s.mail.set b { s.mailOf b with
      toBank := (s.mailOf b).toBank ++ (if (s.slot b).phase = .boost then [.boostEnd s.now] else []) ++ [.driveEnd]
      toCycle := (s.mailOf b).toCycle ++ [.driveEnd d.holder cause (s.slot b).earlyPeak (s.slot b).start s.now] } }

/-- A drive end (R133, R134). -/
theorem State.endDrive_eq (s : State) (b : Bank) (d : Drive) (cause : Cause) : s.endDrive b d cause =
    if (s.senseOf b).zr then (s.driveOver b d cause).completeRelease b d else s.driveOver b d cause := by
  have h : ((if (s.slot b).phase = .boost then
      ((s.setSlot b ((s.slot b).endDrive d cause s.now)).setLowGate d.cyl false).reportBank b (.boostEnd s.now)
      else (s.setSlot b ((s.slot b).endDrive d cause s.now)).setLowGate d.cyl false).reportBank b .driveEnd).reportCycle b
        (.driveEnd d.holder cause (s.slot b).earlyPeak (s.slot b).start s.now) = s.driveOver b d cause := by
    split <;> apply State.eq_of <;>
      simp [State.driveOver, State.setSlot, State.setLowGate, State.reportBank, State.reportCycle, State.setMail,
        State.mailOf, *]
  unfold State.endDrive
  dsimp only
  simp only [show ((s.setSlot b ((s.slot b).endDrive d cause s.now)).setLowGate d.cyl false).now = s.now from rfl]
  have hn : (if (s.slot b).phase = .boost then
      ((s.setSlot b ((s.slot b).endDrive d cause s.now)).setLowGate d.cyl false).reportBank b (.boostEnd s.now)
      else (s.setSlot b ((s.slot b).endDrive d cause s.now)).setLowGate d.cyl false).now = s.now := by split <;> rfl
  rw [hn, h]
  rfl

/-- A fault found on a drive (R136). -/
theorem State.recordFault_eq (s : State) (b : Bank) (d : Drive) (k : FaultKind) : s.recordFault b d k =
    ({ s with
      slots := s.slots.set b { s.slot b with faults := addFault k (s.slot b).faults }
      faults := s.faults.set d.cyl (FaultWritten s d k) } : State).raiseBoth .driverFault := by
  unfold State.recordFault FaultWritten
  cases h : d.holder <;>
    simp only [State.setSlot, State.setFaults, State.faultsOf, State.faultCycle, Holder.pulseKind]

/-- A ZERO of a drive in RELEASE where ZRb was last seen asserted completes the release (R134). -/
theorem exec_zero_seen {u : State} {b : Bank} {d : Drive} (hz : (u.senseOf b).zr = true) (hp : (u.slot b).phase = .release)
    (hd : (u.slot b).drive = some d) : exec (.zero 0 b) u = .next (u.completeRelease b d) := by
  have hx : ({ u.senseOf b with zr := true } : Sense) = u.senseOf b := by rw [← hz]
  have hs : u.setSense b (u.senseOf b) = u := by simp [State.setSense, State.senseOf]
  simp only [exec, execZero, State.onZero, show u.advance 0 = u from rfl, hx, hs, DriveSlot.inPhase, hp, hd, if_true]

/-- A drive starts as R125 gives, and then a TRIP or else a PEAK asserted already is taken as its step takes it. -/
theorem State.startDrive_eq (u : State) (b : Bank) (h : Holder) (c : Cyl) (i : ProfileIx) (d : Nat) (x : Sense) :
    u.startDrive b (u.plan.driveOf h c i d) x =
      if x.tr then State.onTrip (StartsDrive u b x c i d h) b x
      else if x.pk then State.onPeak (StartsDrive u b x c i d h) b x
      else StartsDrive u b x c i d h := by
  have hs : ((u.setSense b x).setSlot b (startedSlot (u.plan.driveOf h c i d) u.now)).setLowGate c true =
      StartsDrive u b x c i d h := rfl
  have hx : (StartsDrive u b x c i d h).slot b = startedSlot (u.plan.driveOf h c i d) u.now := by
    simp [StartsDrive, State.slot, startedSlot, Plan.driveOf]
  have hy : (StartsDrive u b x c i d h).setSense b x = StartsDrive u b x c i d h := by
    simp [StartsDrive, State.setSense]
  unfold State.startDrive
  simp only [show (u.plan.driveOf h c i d).cyl = c from rfl, hs]
  generalize StartsDrive u b x c i d h = t at *
  by_cases k : x.tr
  · have hz : ({ x with tr := true } : Sense) = x := by rw [← k]
    simp only [k, if_true, State.onTrip, hz, hy, hx]
    rfl
  · by_cases k2 : x.pk
    · have hz : ({ x with pk := true } : Sense) = x := by rw [← k2]
      rw [if_neg k, if_pos k2, if_neg k, if_pos k2]
      unfold State.onPeak
      rw [hz]
      simp only [hy, hx]
      rfl
    · simp [k, k2]

/-! ## Release completion (R135 to R138) -/

/-- A scheduled drive updates the count of its cylinder, and a count at or above the threshold isolates it (R137, R138). -/
theorem State.countDrive_isolates {s : State} {c : Cyl} {faults : List FaultKind} (b : Bank)
    (h : (s.faultsOf c).isolated = false ∧ s.plan.limits.val.isolation ≤ countAfter faults (s.faultsOf c).count) :
    s.countDrive b c faults = ({ s with
      faults := s.faults.set c { s.faultsOf c with count := countAfter faults (s.faultsOf c).count, isolated := true }
      mail := s.mail.set b { s.mailOf b with toCycle := (s.mailOf b).toCycle ++ [.isolation c] } } : State).raiseBoth
        .cylIsolated := by
  unfold State.countDrive
  simp only [h.1, h.2]
  rfl

theorem State.countDrive_counts {s : State} {c : Cyl} {faults : List FaultKind} (b : Bank)
    (h : ¬((s.faultsOf c).isolated = false ∧ s.plan.limits.val.isolation ≤ countAfter faults (s.faultsOf c).count)) :
    s.countDrive b c faults =
      { s with faults := s.faults.set c { s.faultsOf c with count := countAfter faults (s.faultsOf c).count } } := by
  unfold State.countDrive
  have e : (!(s.faultsOf c).isolated && decide (s.plan.limits.val.isolation ≤ countAfter faults (s.faultsOf c).count)) = false := by
    by_cases k : (s.faultsOf c).isolated = false <;> simp_all
  simp only [e]
  rfl

/-- The state as the end of a release leaves it, but for the count of a scheduled drive (R135). -/
def State.releaseOver (s : State) (b : Bank) (d : Drive) : State :=
  { s with
    slots := s.slots.set b { s.slot b with
      phase := .off, drive := none, cause := none, faults := [], earlyPeak := false, releaseTimer := none, iref := ⟨0, 0, 0⟩ }
    mail := s.mail.set b { s.mailOf b with
      toBank := (s.mailOf b).toBank ++ [.releaseComplete]
      toCycle := (s.mailOf b).toCycle ++ [.release d.holder (s.slot b).faults.head? s.now] } }

/-- The release of a service drive (R135). -/
theorem State.completeRelease_service {s : State} {b : Bank} {d : Drive} {c : Cyl} (h : d.holder = .service c) :
    s.completeRelease b d = s.releaseOver b d := by
  unfold State.completeRelease State.releaseOver
  rw [h]
  apply State.eq_of <;> simp [State.setSlot, State.reportBank, State.reportCycle, State.setMail, State.mailOf, State.slot]

/-- The release of a scheduled drive (R135, R137). -/
theorem State.completeRelease_scheduled {s : State} {b : Bank} {d : Drive} {id : PulseId} (h : d.holder = .scheduled id) :
    s.completeRelease b d = (s.releaseOver b d).countDrive b d.cyl (s.slot b).faults := by
  have e : ((s.reportBank b .releaseComplete).reportCycle b (.release d.holder (s.slot b).faults.head? s.now)).faultsOf d.cyl =
      s.faultsOf d.cyl := rfl
  unfold State.completeRelease
  simp only [h] at e ⊢
  by_cases k : (s.faultsOf d.cyl).isolated = false ∧
      s.plan.limits.val.isolation ≤ countAfter (s.slot b).faults (s.faultsOf d.cyl).count
  · rw [State.countDrive_isolates b (s := s.releaseOver b d) k, State.countDrive_isolates b (by simpa [e] using k)]
    apply State.eq_of <;>
      simp [State.releaseOver, State.setSlot, State.reportBank, State.reportCycle, State.setMail, State.mailOf, State.slot,
        State.faultsOf, State.raiseBoth, State.raise, State.setPort, State.port, h]
  · rw [State.countDrive_counts b (s := s.releaseOver b d) k, State.countDrive_counts b (by simpa [e] using k)]
    apply State.eq_of <;>
      simp [State.releaseOver, State.setSlot, State.reportBank, State.reportCycle, State.setMail, State.mailOf, State.slot,
        State.faultsOf, h]

/-- The gates of a bank driven off (R134). -/
theorem State.lowGatesOff_get (s : State) (b : Bank) (c : Cyl) : (s.lowGatesOff b).lowGates.get c =
    if c.num ≤ s.plan.count ∧ s.plan.bankOf c = b then false else s.lowGates.get c := by
  have gen : ∀ (l : List Cyl) (u : State), u.plan = s.plan → (l.foldl (fun s c =>
      if decide (c.num ≤ s.plan.count) && decide (s.plan.bankOf c = b) then s.setLowGate c false else s) u).lowGates.get c =
      if c ∈ l ∧ c.num ≤ s.plan.count ∧ s.plan.bankOf c = b then false else u.lowGates.get c := by
    intro l
    induction l with
    | nil => simp
    | cons d l ih =>
      intro u hu
      rw [List.foldl_cons, ih]
      · by_cases hc : c = d
        · subst hc
          by_cases h : c.num ≤ s.plan.count ∧ s.plan.bankOf c = b <;> simp [hu, h, State.setLowGate]
        · simp only [List.mem_cons, hc, false_or]
          by_cases k : decide (d.num ≤ u.plan.count) && decide (u.plan.bankOf d = b) <;>
            simp [k, State.setLowGate, PerCyl.get_set_ne _ hc]
      · split <;> simp [hu]
  have h := gen Cyl.all s rfl
  unfold State.lowGatesOff
  rw [h]
  simp [show c ∈ Cyl.all by cases c <;> decide]

/-! ## A reply placed before or after the driver sequencer acts -/

theorem State.raise_answer (s : State) (p q : Port) (r : Reply) (f : Flag) :
    (s.answer p r).raise q f = (s.raise q f).answer p r := by
  unfold State.raise State.answer State.setPort State.port PortState.raise PortState.withFlags
  cases p <;> cases q <;> rfl

theorem State.raiseBoth_answer (s : State) (p : Port) (r : Reply) (f : Flag) :
    (s.answer p r).raiseBoth f = (s.raiseBoth f).answer p r := by
  simp only [State.raiseBoth, State.raise_answer]

theorem State.recordFault_answer (s : State) (p : Port) (r : Reply) (b : Bank) (d : Drive) (k : FaultKind) :
    (s.answer p r).recordFault b d k = (s.recordFault b d k).answer p r := by
  rw [State.recordFault_eq, State.recordFault_eq, ← State.raiseBoth_answer]
  rfl

theorem State.countDrive_answer (s : State) (p : Port) (r : Reply) (b : Bank) (c : Cyl) (ks : List FaultKind) :
    (s.answer p r).countDrive b c ks = (s.countDrive b c ks).answer p r := by
  by_cases h : (s.faultsOf c).isolated = false ∧ s.plan.limits.val.isolation ≤ countAfter ks (s.faultsOf c).count
  · rw [State.countDrive_isolates b (s := s) h, State.countDrive_isolates b (s := s.answer p r) h, ← State.raiseBoth_answer]
    rfl
  · rw [State.countDrive_counts b (s := s) h, State.countDrive_counts b (s := s.answer p r) h]
    rfl

theorem State.completeRelease_answer (s : State) (p : Port) (r : Reply) (b : Bank) (d : Drive) :
    (s.answer p r).completeRelease b d = (s.completeRelease b d).answer p r := by
  rcases h : d.holder with id | c
  · rw [State.completeRelease_scheduled h, State.completeRelease_scheduled h, ← State.countDrive_answer]
    rfl
  · rw [State.completeRelease_service h, State.completeRelease_service h]
    rfl

theorem State.endDrive_answer (s : State) (p : Port) (r : Reply) (b : Bank) (d : Drive) (cause : Cause) :
    (s.answer p r).endDrive b d cause = (s.endDrive b d cause).answer p r := by
  have h : (s.answer p r).driveOver b d cause = (s.driveOver b d cause).answer p r := rfl
  rw [State.endDrive_eq, State.endDrive_eq, h, State.completeRelease_answer]
  change (if (s.senseOf b).zr then _ else _) = _
  split <;> rfl

theorem State.faultDrive_answer (s : State) (p : Port) (r : Reply) (b : Bank) (d : Drive) (k : EndFault) :
    (s.answer p r).faultDrive b d k = (s.faultDrive b d k).answer p r := by
  simp only [State.faultDrive, State.recordFault_answer, State.endDrive_answer]

theorem State.noteEarlyPeak_answer (s : State) (p : Port) (r : Reply) (b : Bank) (d : Drive) :
    (s.answer p r).noteEarlyPeak b d = (s.noteEarlyPeak b d).answer p r := by
  have h : ((s.answer p r).setSlot b { (s.answer p r).slot b with earlyPeak := true }).recordFault b d .earlyPeak =
      ((s.setSlot b { s.slot b with earlyPeak := true }).recordFault b d .earlyPeak).answer p r := by
    rw [← State.recordFault_answer]
    rfl
  unfold State.noteEarlyPeak
  rw [h]
  change (if (s.slot b).peaksEarly d s.now then _ else _) = _
  split <;> rfl

theorem State.peakDrive_answer (s : State) (p : Port) (r : Reply) (b : Bank) (d : Drive) :
    (s.answer p r).peakDrive b d = (s.peakDrive b d).answer p r := by
  simp only [State.peakDrive, State.noteEarlyPeak_answer]
  rfl

theorem State.onPeak_answer (s : State) (p : Port) (r : Reply) (b : Bank) (x : Sense) :
    (s.answer p r).onPeak b x = (s.onPeak b x).answer p r := by
  have h : (s.answer p r).setSense b { x with pk := true } = (s.setSense b { x with pk := true }).answer p r := rfl
  unfold State.onPeak
  rw [h]
  generalize s.setSense b { x with pk := true } = u
  have hs : (u.answer p r).slot b = u.slot b := rfl
  dsimp only
  rw [hs]
  cases (u.slot b).inPhase .boost with
  | none => rfl
  | some d => exact u.peakDrive_answer p r b d

theorem State.onTrip_answer (s : State) (p : Port) (r : Reply) (b : Bank) (x : Sense) :
    (s.answer p r).onTrip b x = (s.onTrip b x).answer p r := by
  have h : (s.answer p r).setSense b { x with tr := true } = (s.setSense b { x with tr := true }).answer p r := rfl
  unfold State.onTrip
  rw [h]
  generalize s.setSense b { x with tr := true } = u
  have hs : (u.answer p r).slot b = u.slot b := rfl
  dsimp only
  rw [hs]
  cases (u.slot b).phase <;> cases (u.slot b).drive <;>
    first | rfl | exact u.faultDrive_answer p r b _ _ | exact u.recordFault_answer p r b _ _

end Sys2Proof.Machine
end

