-- ==== Sys2Proof/WellFormed.lean ====
section
/-! DEFINITION. Which commands are well formed: the bounds that the operand types do not carry. -/

namespace Sys2Proof

/-- The position operand of a step on one pulse names a record position, 0 to 5 (R83); a short transaction received fewer
than the 96 bits of a frame (R147). Every other operand has exactly the values its type holds. -/
def Instr.wf : Instr → Bool
  | .startPoint _ _ pos => decide (pos < 6)
  | .deadlineExpiry _ _ pos => decide (pos < 6)
  | .shortTransaction _ _ bits => decide (bits.length < 96)
  | .powerOnReset .. => true
  | .toothArrival .. => true
  | .stallExpiry .. => true
  | .armingPoint .. => true
  | .armingNotice .. => true
  | .armingAnswer .. => true
  | .syncChange .. => true
  | .syncChangeTableEngine .. => true
  | .toothArrivalNotice .. => true
  | .dwellEnd .. => true
  | .grantOffer .. => true
  | .cycleDriveEnd .. => true
  | .cycleReleaseComplete .. => true
  | .isolationEvent .. => true
  | .queueEntry .. => true
  | .queueRemoval .. => true
  | .offerAccept .. => true
  | .offerRefusal .. => true
  | .boostEnd .. => true
  | .bankDriveEnd .. => true
  | .bankReleaseComplete .. => true
  | .rechargeExpiry .. => true
  | .preemptExpiry .. => true
  | .bankCut .. => true
  | .driverCut .. => true
  | .peak .. => true
  | .holdChop .. => true
  | .floorEntry .. => true
  | .floorExit .. => true
  | .holdLossExpiry .. => true
  | .peakLimitExpiry .. => true
  | .trip .. => true
  | .durationExpiry .. => true
  | .zero .. => true
  | .releaseLimitExpiry .. => true
  | .serviceDriveEnd .. => true
  | .serviceReleaseComplete .. => true
  | .transactionBegin .. => true
  | .transactionComplete .. => true
  | .noneFrame .. => true
  | .portReset .. => true
  | .unknownRequest .. => true
  | .planSetEngine .. => true
  | .planSetCylinder .. => true
  | .planSetTiming .. => true
  | .planSetKind .. => true
  | .planSetBank .. => true
  | .planSetProfile .. => true
  | .planSetLimits .. => true
  | .planRead .. => true
  | .planClose .. => true
  | .planOpen .. => true
  | .stagePulse .. => true
  | .clearSlot .. => true
  | .clearStage .. => true
  | .publish .. => true
  | .withdraw .. => true
  | .cutoutSet .. => true
  | .reinstate .. => true
  | .servicePulse .. => true
  | .serviceRead .. => true
  | .portSetup .. => true
  | .flagsRead .. => true
  | .flagsClear .. => true
  | .cursorSet .. => true
  | .cursorRead .. => true
  | .angleRead .. => true

end Sys2Proof
end

