-- ==== Sys2Proof/Tests/Slice0.lean ====
section
/-! SUPPORT. Tests of the model on the spec's own examples, and a witness for the hypotheses of each statement. -/

namespace Sys2Proof.Tests

open Sys2Proof Sys2Proof.Machine

/-! ## Helpers: the reference inline six (spec/11 section 11.1) and small states over it -/

/-- The state of a step; no command faults or is refused. -/
def out : Host.Outcome State Fault Refusal → State
  | .next t => t
  | .fault f => nomatch f
  | .refused _ => State.reset

/-- The state after one command. -/
def run (i : Instr) (s : State) : State := out (exec i s)

def quiet : Sense := ⟨false, false, false, false⟩

def refCopy : WorkingCopy :=
  { count := 6, teeth := 60, missing := 2, gapRatio := 16, cam0 := true
    tdc := ⟨960, 8640, 4800, 10560, 2880, 6720, 0, 0⟩, advance := 3200, coastLimit := 2, phaseMissLimit := 2, stallMs := 200 }

def refProfile : ProfilePlan := ⟨180, 400, 60, 80, 50, 200, 320⟩

def refPlan : Plan :=
  { closed := true
    votes := .fill false
    engine := ⟨true, ⟨6, 60, 2, 16, true⟩⟩
    cylinder := ⟨⟨true, 960, .i0, 4800⟩, ⟨true, 8640, .i0, 4800⟩, ⟨true, 4800, .i0, 4800⟩, ⟨true, 10560, .i1, 4800⟩,
      ⟨true, 2880, .i1, 4800⟩, ⟨true, 6720, .i1, 4800⟩, ⟨false, 0, .i0, 0⟩, ⟨false, 0, .i0, 0⟩⟩
    timing := ⟨true, ⟨3200, 160, 150, 200⟩⟩
    kind := ⟨⟨true, 400, .a⟩, ⟨true, 600, .a⟩, ⟨true, 1000, .a⟩, ⟨true, 2000, .b⟩⟩
    bank := ⟨⟨true, 300, 100⟩, ⟨true, 400, 100⟩, ⟨false, 0, 0⟩, ⟨false, 0, 0⟩⟩
    profile := ⟨⟨true, refProfile⟩, ⟨false, ⟨0, 0, 0, 0, 0, 0, 0⟩⟩, ⟨false, ⟨0, 0, 0, 0, 0, 0, 0⟩⟩, ⟨false, ⟨0, 0, 0, 0, 0, 0, 0⟩⟩⟩
    limits := ⟨true, ⟨2, 2, 200, 3, ⟨0, 3⟩⟩⟩ }

def openPlan : Plan := { refPlan with closed := false }

/-- The engine at rest with the plan CLOSED. -/
def rest : State := { State.reset with plan := refPlan, tracker := { Tracker.reset with copy := some refCopy } }

/-- The engine at rest with every group set and the plan still OPEN. -/
def open_ : State := { State.reset with plan := openPlan }

/-- FULL_SYNC at 2,000 rpm, tooth 9 of revolution 0 at time 10,000 (the example of spec/01 section 1.5). -/
def turningTracker : Tracker :=
  { Tracker.reset with
    sync := .fullSync, window := [500, 500, 500, 500], lastTooth := some 10000, candidateCount := 58, tooth := 9
    prevCam := some true, phaseGained := true, stallOn := true, speed := 2000, copy := some refCopy
    marks := { PointMarks.reset with watchFrom := 864 } }

def turning : State := { rest with now := 10000, tracker := turningTracker }

/-- `turning` with another tracker state. -/
def turningIn (sync : SyncState) (tooth : Nat) (rev : Bool) : State :=
  { turning with tracker := { turningTracker with sync := sync, tooth := tooth, rev := rev } }

def req (code : Byte) (fields : List (Nat × Nat)) : Request := ⟨code, 5, BitVec.ofNat 72 (packBits fields)⟩

/-- Port A holds one request. -/
def asked (s : State) (r : Request) : State := { s with ports := s.ports.set .a { s.ports.a with commands := [r] } }

/-- The reply that stands last at port A: result and data. -/
def answered (s : State) : Option (Result × Nat) := s.ports.a.replies.getLast?.map fun r => (r.result, r.data.toNat)

/-- What a request answers. -/
def ask (i : Instr) (code : Byte) (fields : List (Nat × Nat)) (s : State) : Option (Result × Nat) :=
  answered (run i (asked s (req code fields)))

/-- The state after a request. -/
def did (i : Instr) (code : Byte) (fields : List (Nat × Nat)) (s : State) : State := run i (asked s (req code fields))

theorem nextIs_asked {s : State} (r : Request) (h : s.ports.a.replies.length < 16) (k : s.lastTaken = .b) :
    (asked s r).NextIs .a r [] := ⟨rfl, h, .inl k⟩

/-- A pulse of a record. -/
def pulseAt (kind : Kind) (start : Int) (duration : Nat) (port : Port) (slot : SlotIx) (x : PulseState) : ArmedPulse :=
  ⟨⟨⟨kind, .i0, start, duration⟩, port, slot⟩, x, false, false, false, 0, 0⟩

/-- A record of cylinder 1, armed at 9,280 of the cycle before (position 9,280, cycle start 11,520). -/
def record (ps : List ArmedPulse) : Record := ⟨7, 3, false, false, ps, 9280, 3200⟩

def lane1 (l : Lane) (s : State) : State := { s with lanes := s.lanes.set .c1 l }

def withRecord (ps : List ArmedPulse) : Lane := { Lane.reset with current := some (record ps) }

def mainId : PulseId := ⟨.c1, 7, 0, .main⟩

def mainDrive : Drive := ⟨.c1, .i0, refProfile, 1200, .scheduled mainId⟩

/-- Bank 0 HELD by a MAIN of cylinder 1 whose drive is in the given phase since time 10,000. -/
def drivingIn (phase : Phase) : State :=
  { turning with
    banks := turning.banks.set .i0 { BankRecord.reset with state := .held, holder := some (.scheduled mainId), recharge := .waiting }
    slots := turning.slots.set .i0 { DriveSlot.reset with
      phase := phase, drive := some mainDrive, start := 10000, durationTimer := some 11200, peakLimitTimer := some 10400
      holdLossTimer := some 10050, releaseTimer := some 10200, boostGate := decide (phase = .boost), iref := ⟨180, 40, 320⟩ }
    lowGates := turning.lowGates.set .c1 true }

/-! ## Well-formedness -/

theorem test_wf_position : (Instr.startPoint 0 .c1 5).wf = true ∧ (Instr.startPoint 0 .c1 6).wf = false ∧
    (Instr.deadlineExpiry 0 .c1 5).wf = true ∧ (Instr.deadlineExpiry 0 .c1 6).wf = false := by decide

theorem test_wf_short : (Instr.shortTransaction 0 .a (List.replicate 95 true)).wf = true ∧
    (Instr.shortTransaction 0 .a (List.replicate 96 true)).wf = false := by decide

/-! ## Queue of commands -/

theorem test_step_takes_front :
    (out (step { State.reset with pending := [.toothArrival 10 true, .stallExpiry 0] })).pending = [.stallExpiry 0] := by decide

theorem test_idle : (out (step State.reset)) = State.reset := by decide

theorem test_no_word_spells_a_command : decodeTableWord 8 0 = none ∧ (State.reset.withFetchWord 8 0).pending = [] := by decide

theorem test_powerOnReset : run (.powerOnReset 5) turning = { State.reset with now := 10005 } := by decide

/-! ## Tracker (spec/01) -/

theorem test_first_tooth : (run (.toothArrival 100 false) State.reset).tracker.sync = .seeking ∧
    (run (.toothArrival 100 false) State.reset).tracker.lastTooth = some 100 ∧
    (run (.toothArrival 100 false) State.reset).ports.b.flags = 0x0001#16 := by decide

/-- Case 1 of the example of section 1.5: the engine angle just before the early tooth, and the jump it makes. -/
theorem test_jump_948_to_960 : turningTracker.engineAngle 10439 = 948 ∧
    (run (.toothArrival 440 false) turning).tracker.engineAngle 10440 = 960 ∧
    (run (.toothArrival 440 false) turning).tracker.marks.jumps = [⟨948, 960⟩] := by decide

/-- Case 2 of the same example: on time at 448 µs, and the clamp at 959. -/
theorem test_interpolation_clamps : turningTracker.engineAngle 10447 = 949 ∧ turningTracker.engineAngle 10448 = 950 ∧
    turningTracker.engineAngle 10495 = 959 ∧ turningTracker.engineAngle 10559 = 959 := by decide

theorem test_tooth_error : (run (.toothArrival 1000 false) turning).tracker.sync = .candidate ∧
    (run (.toothArrival 1000 false) turning).ports.a.flags = 0x0007#16 := by decide

theorem test_missed_gap_coasts : (run (.toothArrival 500 true) (turningIn .fullSync 57 true)).tracker.sync = .coasting ∧
    (run (.toothArrival 500 true) (turningIn .fullSync 57 true)).tracker.phaseHeld = true ∧
    (run (.toothArrival 500 true) (turningIn .fullSync 57 true)).tracker.cycles = 1 := by decide

theorem test_stall : (run (.stallExpiry 199999) turning).tracker.sync = .fullSync ∧
    (run (.stallExpiry 200000) turning).tracker.sync = .stopped ∧
    (run (.stallExpiry 200000) turning).ports.a.flags = 0x0003#16 := by decide

/-! ## Plan (spec/02) -/

theorem test_planSetEngine : (did (.planSetEngine 0) 0x01#8 [(4, 6), (7, 60), (2, 2), (6, 16), (1, 1)] State.reset).plan.engine =
    refPlan.engine ∧ ask (.planSetEngine 0) 0x01#8 [(4, 6), (7, 61), (2, 2), (6, 16), (1, 1)] State.reset = some (.range, 0) := by
  decide

theorem test_planSetCylinder : (did (.planSetCylinder 0) 0x02#8 [(4, 4), (14, 10560), (2, 1), (14, 4800)] State.reset).plan.cylinder.c4 =
    refPlan.cylinder.c4 ∧ ask (.planSetCylinder 0) 0x02#8 [(4, 9), (14, 0), (2, 0), (14, 1)] State.reset = some (.range, 0) := by decide

theorem test_planSetTiming : (did (.planSetTiming 0) 0x03#8 [(13, 3200), (9, 160), (9, 150), (11, 200)] State.reset).plan.timing =
    refPlan.timing ∧ ask (.planSetTiming 0) 0x03#8 [(13, 2879), (9, 160), (9, 150), (11, 200)] State.reset = some (.range, 0) := by decide

theorem test_planSetKind : (did (.planSetKind 0) 0x04#8 [(3, 4), (11, 2000), (1, 1)] State.reset).plan.kind.post =
    refPlan.kind.post ∧ ask (.planSetKind 0) 0x04#8 [(3, 0), (11, 2000), (1, 1)] State.reset = some (.range, 0) := by decide

theorem test_planSetBank : (did (.planSetBank 0) 0x05#8 [(2, 1), (12, 400), (9, 100)] State.reset).plan.bank.i1 =
    refPlan.bank.i1 ∧ ask (.planSetBank 0) 0x05#8 [(2, 1), (12, 3001), (9, 100)] State.reset = some (.range, 0) := by decide

theorem test_planSetProfile :
    (did (.planSetProfile 0) 0x06#8 [(2, 0), (9, 180), (10, 400), (10, 60), (8, 80), (8, 50), (9, 200), (9, 320)]
      State.reset).plan.profile.i0 = refPlan.profile.i0 ∧
    ask (.planSetProfile 0) 0x06#8 [(2, 0), (9, 180), (10, 400), (10, 60), (8, 80), (8, 50), (9, 200), (9, 180)] State.reset =
      some (.range, 0) := by decide

theorem test_planSetLimits : (did (.planSetLimits 0) 0x07#8 [(4, 2), (4, 2), (10, 200), (4, 3), (8, 0), (8, 3)] State.reset).plan.limits =
    refPlan.limits ∧ ask (.planSetLimits 0) 0x07#8 [(4, 2), (4, 2), (10, 200), (4, 3), (8, 0), (8, 3)] rest = some (.planClosed, 0) := by
  decide

theorem test_planRead : ask (.planRead 0) 0x08#8 [(3, 2)] rest =
    some (.ok, 3 + 16 * 3200 + 2 ^ 17 * 160 + 2 ^ 26 * 150 + 2 ^ 35 * 200) ∧
    ask (.planRead 0) 0x08#8 [(3, 7)] rest = some (.range, 0) := by decide

theorem test_planClose : (did (.planClose 0) 0x09#8 [] open_).plan.closed = true ∧
    (did (.planClose 0) 0x09#8 [] open_).tracker.copy = some refCopy ∧
    ask (.planClose 0) 0x09#8 [] State.reset = some (.planInvalid, 1) := by decide

theorem test_planOpen : (did (.planOpen 0) 0x0A#8 [] rest).plan.votes = ⟨true, false⟩ ∧
    (did (.planOpen 0) 0x0A#8 [] { rest with plan := { refPlan with votes := ⟨false, true⟩ } }).plan.closed = false ∧
    ask (.planOpen 0) 0x0A#8 [] turning = some (.state, 2) := by decide

/-! ## Staging (the table of spec/03 section 3.2) -/

/-- STAGE_PULSE in slot 0, start angle in two's complement of 14 bits. -/
def stage (c k profile start duration : Nat) : Option (Result × Nat) :=
  ask (.stagePulse 0) 0x10#8 [(4, c), (2, 0), (3, k), (2, profile), (14, start), (15, duration)] rest

theorem test_stage_checks_1_to_4 : stage 7 1 0 0 1000 = some (.range, 1) ∧ stage 1 6 0 0 1000 = some (.range, 2) ∧
    stage 1 2 1 (16384 - 240) 300 = some (.range, 3) ∧ stage 1 2 0 (16384 - 240) 100 = some (.range, 4) := by decide

theorem test_stage_checks_5_to_8 : stage 1 4 0 2880 25000 = some (.range, 5) ∧ stage 1 2 0 (16384 - 3200) 300 = some (.range, 6) ∧
    stage 1 4 0 7000 3000 = some (.range, 7) ∧ stage 1 4 0 4800 3000 = some (.range, 8) := by decide

theorem test_stage_passes : stage 1 2 0 (16384 - 3136) 150 = some (.ok, 1) ∧ stage 1 4 0 4799 20000 = some (.ok, 1) := by decide

/-- `rest` with one pulse staged and published by port A for cylinder 1, and its state at the port. -/
def stagedA : State := { rest with tables := rest.tables.setStaged .a .c1 ⟨some ⟨.pilot, .i0, -240, 300⟩, none, none, none⟩ }

theorem test_clearSlot : ask (.clearSlot 0) 0x11#8 [(4, 1), (2, 0)] stagedA = some (.ok, 0) ∧
    ask (.clearSlot 0) 0x11#8 [(4, 7), (2, 0)] stagedA = some (.range, 1) := by decide

theorem test_clearStage : (did (.clearStage 0) 0x12#8 [(8, 1)] stagedA).tables = rest.tables ∧
    ask (.clearStage 0) 0x12#8 [(8, 64)] stagedA = some (.range, 1) := by decide

theorem test_publish : ((did (.publish 0) 0x13#8 [(8, 1)] stagedA).tables.active.c1.entries.map fun m => m.pulse.start) = [-240] ∧
    ask (.publish 0) 0x13#8 [(8, 1)] stagedA = some (.ok, 1) := by decide

theorem test_cutoutSet : ask (.cutoutSet 0) 0x18#8 [(8, 0x21)] open_ = some (.ok, 0x21) ∧
    (did (.cutoutSet 0) 0x18#8 [(8, 0x21)] open_).tables.cutOut = ⟨0x21, 0⟩ := by decide

/-! ## The merge (spec/04 sections 4.4 and 4.6) -/

def live (a b c d : Option Pulse) : Contribution := { Contribution.absent with state := .live, pulses := ⟨a, b, c, d⟩ }

/-- Step 3 of the worked merge: seven candidates of which six fit, and an eighth. -/
def mergedA : Contribution := live (some ⟨.pilot, .i0, -560, 250⟩) (some ⟨.pilot, .i0, -240, 300⟩) (some ⟨.main, .i0, -32, 1200⟩)
  (some ⟨.after, .i0, 256, 400⟩)

def mergedB : Contribution := live (some ⟨.post, .i0, 2880, 3000⟩) (some ⟨.after, .i0, 320, 500⟩) (some ⟨.post, .i0, 1440, 800⟩)
  (some ⟨.post, .i0, 4000, 2000⟩)

theorem test_merge_step3_list : ((refPlan.mergeList mergedA mergedB).map fun m => (m.pulse.start, m.port, m.slot)) =
    [(-560, .a, .i0), (-240, .a, .i1), (-32, .a, .i2), (256, .a, .i3), (1440, .b, .i2), (2880, .b, .i0)] := by decide

theorem test_merge_step3_verdicts : (mergedB.withVerdicts (refPlan.verdicts mergedA mergedB) .b).verdicts =
    ⟨some .accepted, some (.excluded .spacing), some .accepted, some (.excluded .limit)⟩ := by decide

/-- Step 4: A0 becomes a second MAIN. -/
theorem test_merge_step4 :
    let a := live (some ⟨.main, .i0, 640, 500⟩) mergedA.pulses.i1 mergedA.pulses.i2 mergedA.pulses.i3
    ((refPlan.mergeList a mergedB).map fun m => m.pulse.start) = [-240, -32, 256, 1440, 2880, 4000] ∧
    (a.withVerdicts (refPlan.verdicts a mergedB) .a).verdicts.i0 = some (.excluded .secondMain) := by decide

/-- Both contributions of cylinder 1 LIVE and merged; port B's age is one short of its limit. -/
def merged : State := { rest with
  tables := { rest.tables with
    contributions := ⟨rest.tables.contributions.a.set .c1 mergedA, rest.tables.contributions.b.set .c1 { mergedB with age := 2 }⟩
    active := rest.tables.active.set .c1 ⟨refPlan.mergeList mergedA mergedB, 3⟩ } }

theorem test_withdraw : ((did (.withdraw 0) 0x14#8 [(8, 1)] merged).tables.active.c1.entries.map fun m => m.pulse.start) =
    [320, 1440, 2880, 4000] ∧ (did (.withdraw 0) 0x14#8 [(8, 1)] merged).tables.active.c1.revision = 4 := by decide

/-! ## Armings and records (spec/05) -/

/-- Cylinder 1's arming point, engine angle 9,280, is reached at the tooth of that angle. -/
def atArming : State := { turning with
  tracker := { turningTracker with tooth := 36, rev := true, lastTooth := some 10000, marks := { PointMarks.reset with watchFrom := 9216 } } }

theorem test_armingPoint : (atArming.tracker.nextArming refCopy .c1) = 9280 ∧
    (run (.armingPoint 333 .c1) atArming).lanes.c1.arming = none ∧
    (run (.armingPoint 334 .c1) atArming).lanes.c1.arming = some ⟨0, 9280, 3200, none, none⟩ := by decide

/-- An arming of cylinder 1 in course. -/
def armingNow (answer : Option ArmingAnswer) (loss : Option DropReason) (s : State) : State :=
  lane1 { Lane.reset with arming := some ⟨7, 9280, 3200, loss, answer⟩ } s

/-- The example of section 3.5: port B's contribution expires at its third arming. -/
theorem test_armingNotice : (run (.armingNotice 0 .c1) (armingNow none none merged)).tables.contributions.b.c1.state = .expired ∧
    (run (.armingNotice 0 .c1) (armingNow none none merged)).tables.contributions.b.c1.age = 3 ∧
    (run (.armingNotice 0 .c1) (armingNow none none merged)).tables.active.c1.revision = 4 ∧
    (run (.armingNotice 0 .c1) (armingNow none none merged)).ports.b.flags = 0x0020#16 ∧
    (run (.armingNotice 0 .c1) (armingNow none none merged)).ports.a.flags = 0x0040#16 := by decide

theorem test_armingNotice_answer :
    ((run (.armingNotice 0 .c1) (armingNow none none merged)).lanes.c1.arming.bind (·.answer)).map
      (fun x => (x.entries.length, x.revision, x.cutOut)) = some (6, 3, false) := by decide

theorem test_armingAnswer :
    ((run (.armingAnswer 0 .c1) (armingNow (some ⟨[⟨⟨.main, .i0, -32, 1200⟩, .a, .i2⟩], 3, false⟩) none turning)).lanes.c1.current.map
      (fun r => (r.cycle, r.revision, r.pulses.map (·.state)))) = some (7, 3, [.pending]) ∧
    (run (.armingAnswer 0 .c1) (armingNow (some ⟨[⟨⟨.main, .i0, -32, 1200⟩, .a, .i2⟩], 3, true⟩) none turning)).lanes.c1.current = none := by
  decide

/-- The start point 950 of the example of section 1.5, one cycle of position on, at the early tooth. -/
def beforePilot (x : PulseState) : State :=
  lane1 (withRecord [pulseAt .pilot (-10) 300 .a .i0 x])
    { turning with tracker := { turningTracker with marks := { turningTracker.marks with laps := 1, watchFrom := 11520 + 864 } } }

theorem test_startPoint_on_time : (run (.startPoint 447 .c1 0) (beforePilot .pending)).lanes.c1.outbox = [] ∧
    (run (.startPoint 448 .c1 0) (beforePilot .pending)).lanes.c1.outbox = [.entry .i0 ⟨⟨.c1, 7, 0, .pilot⟩, 10448⟩ 1] := by decide

theorem test_startPoint_late : ((run (.startPoint 0 .c1 0) (run (.toothArrival 440 false) (beforePilot .pending))).lanes.c1.current.map
    fun r => r.pulses.map fun p => (p.late, p.state)) = some [(true, .due 10440 11040 .bank)] := by decide

/-- The pilot at 950 passed by the jump from 948 to 960 waits for the record of an arming at 949 of the same jump, and is LATE
even where a further tooth arrives before that record is made. -/
theorem test_late_kept_over_a_further_tooth :
    let waiting : Lane := { Lane.reset with arming := some ⟨7, 11520 + 949, 3200, none, some ⟨[], 0, false⟩⟩ }
    let s := { beforePilot .pending with lanes := (beforePilot .pending).lanes.set .c2 waiting }
    let t := run (.toothArrival 500 false) (run (.toothArrival 440 false) s)
    let u := run (.startPoint 0 .c1 0) (run (.armingAnswer 0 .c2) t)
    t.tracker.marks.jumps.length = 2 ∧ (run (.startPoint 0 .c1 0) t).lanes.c1 = t.lanes.c1 ∧
    (u.lanes.c1.current.map fun r => r.pulses.map fun p => (p.late, p.state)) = some [(true, .due 10940 11540 .bank)] := by decide

theorem test_deadlineExpiry : (run (.deadlineExpiry 599 .c1 0) (beforePilot (.due 10000 10600 .bank))).lanes.c1.last = none ∧
    ((run (.deadlineExpiry 600 .c1 0) (beforePilot (.due 10000 10600 .bank))).lanes.c1.last.map
      fun r => r.pulses.map (·.state)) = some [.dropped (.tolerance .bank)] ∧
    (run (.deadlineExpiry 600 .c1 0) (beforePilot (.due 10000 10600 .bank))).ports.a.flags = 0x0080#16 := by decide

theorem test_dwellEnd :
    (run (.dwellEnd 5 .c1) (lane1 { withRecord [pulseAt .main (-32) 1200 .a .i0 (.due 9000 20000 .cylinder)] with
      injector := .dwell 10005 } turning)).lanes.c1.outbox = [.entry .i0 ⟨mainId, 9000⟩ 1] := by decide

/-- The clipped post of section 5.5: start 4,400, duration 2,000, due at time 10,000 and offered later. -/
def latePost : State :=
  { lane1 (withRecord [pulseAt .post 4400 2000 .b .i0 (.due 10000 12000 .bank)]) turning with
    now := 10083
    tracker := { turningTracker with tooth := 56, lastTooth := some 10083, marks := { turningTracker.marks with laps := 1 } }
    banks := turning.banks.set .i0 { BankRecord.reset with
      queue := [⟨⟨.c1, 7, 0, .post⟩, 10000⟩], offer := some ⟨⟨.c1, 7, 0, .post⟩, 10000⟩ } }

/-- The five rows of the example. -/
theorem test_clip_example : clipDuration 4496 2000 4800 150 96 500 = some (1583, true) ∧
    clipDuration 4400 2000 4800 150 96 500 = some (2000, false) ∧ clipDuration 4688 2000 4800 150 96 500 = some (583, true) ∧
    clipDuration 4764 2000 4800 150 96 500 = some (187, true) ∧ clipDuration 4784 2000 4800 150 96 500 = none := by decide

/-- At engine angle 5,456 the post stands at 4,496, 304 steps before the end limit. -/
theorem test_grantOffer : (run (.grantOffer 417 .i0) latePost).lanes.c1.outbox = [.accept .i0 ⟨.c1, 7, 0, .post⟩ .i0 1583] ∧
    (run (.grantOffer 417 .i0) latePost).ports.b.flags = 0x0200#16 := by decide

/-- A slot of bank 0 has reports under way to the cycle unit. -/
def reported (rs : List CycleReport) (s : State) : State := { s with mail := s.mail.set .i0 ⟨[], rs, []⟩ }

theorem test_cycleDriveEnd :
    ((run (.cycleDriveEnd 0 .i0) (reported [.driveEnd (.scheduled mainId) .time false 10000 11200]
      (lane1 (withRecord [pulseAt .main (-32) 1200 .a .i2 (.energized 10000)]) turning))).lanes.c1.last.map
      fun r => r.pulses.map fun p => (p.state, p.energized)) = some [(.done, 1200)] := by decide

/-- The dwell of 200 µs counts from the release completion at 9,990, however late its report is taken (R92). -/
theorem test_cycleReleaseComplete :
    (run (.cycleReleaseComplete 0 .i0) (reported [.release (.scheduled mainId) none 9990]
      (lane1 { Lane.reset with injector := .releasing } turning))).lanes.c1.injector = .dwell 10190 := by decide

theorem test_isolationEvent :
    ((run (.isolationEvent 0 .i0) (reported [.isolation .c1] (beforePilot .pending))).lanes.c1.last.map
      fun r => r.pulses.map (·.state)) = some [.dropped .isolated] := by decide

theorem test_syncChange :
    ((run (.syncChange 0) { beforePilot .pending with syncToCycle := [⟨.fullSync, .stopped, true, false⟩] }).lanes.c1.last.map
      fun r => r.pulses.map (·.state)) = some [.dropped .stop] ∧
    (run (.syncChange 0) { beforePilot .pending with syncToCycle := [⟨.fullSync, .coasting, true, true⟩] }).lanes.c1.last = none := by decide

theorem test_syncChangeTableEngine :
    (run (.syncChangeTableEngine 0) { rest with plan := { refPlan with votes := ⟨true, false⟩ }
                                                syncToTable := [⟨.stopped, .seeking, false, false⟩] }).plan.votes = ⟨false, false⟩ := by
  decide

/-! ## Banks (spec/06) -/

/-- What a lane has sent stands in its outbox. -/
def sent (c : Cyl) (ms : List BankMessage) (s : State) : State := { s with lanes := s.lanes.set c { s.lanes.get c with outbox := ms } }

def entry (c : Cyl) (kind : Kind) (due : Nat) : QueueEntry := ⟨⟨c, 7, 0, kind⟩, due⟩

/-- The answer of an arming: the MAIN of the example. -/
def mainAnswer : ArmingAnswer := ⟨[⟨⟨.main, .i0, -32, 1200⟩, .a, .i2⟩], 3, false⟩

/-- A record with pulses, or an acceptance, that is on its way keeps the plan CLOSED (R40, log 27). -/
theorem test_planOpen_waits_for_what_is_under_way :
    ask (.planOpen 0) 0x0A#8 [] (armingNow (some mainAnswer) none rest) = some (.state, 3) ∧
    ask (.planOpen 0) 0x0A#8 [] (armingNow (some mainAnswer) (some .stop) rest) = some (.ok, 6) ∧
    ask (.planOpen 0) 0x0A#8 [] (sent .c1 [.accept .i0 mainId .i0 1200] rest) = some (.state, 5) := by decide

/-- The example of section 6.3: bank 1 HELD, AFTER 6 queued, PILOT 5 joins. -/
def bank1 (q : List QueueEntry) (s : State) : State :=
  { s with banks := s.banks.set .i1 { BankRecord.reset with
      state := .held, holder := some (.scheduled ⟨.c4, 7, 0, .main⟩), recharge := .done, queue := q } }

theorem test_queueEntry :
    (run (.queueEntry 0 .c6) (sent .c6 [.entry .i1 (entry .c6 .after 240) 1] (bank1 [entry .c5 .post 100] turning))).banks.i1.queue =
      [entry .c6 .after 240, entry .c5 .post 100] ∧
    (run (.queueEntry 0 .c5) (sent .c5 [.entry .i1 (entry .c5 .pilot 180) 1] (bank1 [entry .c6 .after 240] turning))).banks.i1.queue =
      [entry .c5 .pilot 180, entry .c6 .after 240] := by decide

/-- The entries of two MAINs that became due at one time, that of cylinder 6 handed over first. -/
def handedTwice : State :=
  sent .c5 [.entry .i1 (entry .c5 .main 240) 2] (sent .c6 [.entry .i1 (entry .c6 .main 240) 1] (bank1 [] turning))

/-- The one handed over first joins first, whichever QUEUE_ENTRY comes first (R107). -/
theorem test_queueEntry_in_order_of_handing :
    (run (.queueEntry 0 .c5) handedTwice).banks.i1.queue = [] ∧
    (run (.queueEntry 0 .c5) (run (.queueEntry 0 .c6) handedTwice)).banks.i1.queue = [entry .c6 .main 240, entry .c5 .main 240] := by
  decide

theorem test_queueRemoval :
    (run (.queueRemoval 0 .c5) (sent .c5 [.removal .i1 ⟨.c5, 7, 0, .post⟩]
      (bank1 [entry .c6 .after 240, entry .c5 .post 100] turning))).banks.i1.queue = [entry .c6 .after 240] := by decide

/-- Bank 0 IDLE, offering itself to the MAIN of cylinder 1. -/
def offering (m : BankMessage) : State :=
  sent .c1 [m] { turning with banks := turning.banks.set .i0 { BankRecord.reset with
    queue := [⟨mainId, 9000⟩, entry .c2 .post 8000], offer := some ⟨mainId, 9000⟩ } }

theorem test_offerAccept :
    let t := run (.offerAccept 0 .c1 quiet) (offering (.accept .i0 mainId .i0 1200))
    t.banks.i0.state = .held ∧ t.slots.i0.phase = .boost ∧ t.slots.i0.iref = ⟨180, 40, 320⟩ ∧ t.lowGates.c1 = true := by decide

theorem test_offerRefusal : (run (.offerRefusal 0 .c1) (offering (.refuse .i0 mainId))).banks.i0.offer = some (entry .c2 .post 8000) := by
  decide

/-- The slot of bank 0 has reports under way to the bank arbiter. -/
def bankTold (rs : List BankReport) (s : State) : State := { s with mail := s.mail.set .i0 ⟨rs, [], []⟩ }

/-- The recharge of 300 µs counts from the boost phase's end at 10,140, however late its report is taken (R34, R103). -/
theorem test_boostEnd :
    (run (.boostEnd 140 .i0) (bankTold [.boostEnd 10140] (drivingIn .hold))).banks.i0.recharge = .running 10440 ∧
    (run (.boostEnd 500 .i0) (bankTold [.boostEnd 10140] (drivingIn .hold))).banks.i0.recharge = .running 10440 := by decide

theorem test_bankDriveEnd : (run (.bankDriveEnd 0 .i0) (bankTold [.driveEnd] (drivingIn .release))).banks.i0.state = .releasing := by decide

/-- Bank 0 past the drive end, with the given recharge. -/
def releasing (x : Recharge) : State :=
  { turning with banks := turning.banks.set .i0 { BankRecord.reset with
      state := .releasing, holder := some (.scheduled mainId), recharge := x, queue := [entry .c2 .post 8000] } }

theorem test_bankReleaseComplete :
    (run (.bankReleaseComplete 0 .i0) (bankTold [.releaseComplete] (releasing .done))).banks.i0.offer = some (entry .c2 .post 8000) ∧
    (run (.bankReleaseComplete 0 .i0) (bankTold [.releaseComplete] (releasing (.running 10700)))).banks.i0.state = .recovering := by decide

/-- Bank 0 RECOVERING until 10,700. -/
def recovering : State :=
  { turning with banks := turning.banks.set .i0 { BankRecord.reset with state := .recovering, recharge := .running 10700 } }

theorem test_rechargeExpiry : (run (.rechargeExpiry 699 .i0) recovering).banks.i0.state = .recovering ∧
    (run (.rechargeExpiry 700 .i0) recovering).banks.i0.state = .idle := by decide

/-- Bank 0 driving a POST while a PILOT waits, the preempt timer running to 10,100. -/
def preempting : State :=
  { drivingIn .hold with
    banks := turning.banks.set .i0 { BankRecord.reset with
      state := .held, holder := some (.scheduled ⟨.c1, 7, 0, .post⟩), recharge := .done, queue := [entry .c2 .pilot 9000]
      preempt := some ⟨10100, entry .c2 .pilot 9000⟩ } }

theorem test_preemptExpiry : (run (.preemptExpiry 99 .i0) preempting).mail.i0.cuts = [] ∧
    (run (.preemptExpiry 100 .i0) preempting).mail.i0.cuts = [.scheduled ⟨.c1, 7, 0, .post⟩] := by decide

theorem test_bankCut :
    (run (.bankCut 0 .c1) (sent .c1 [.cut .i0 (.scheduled mainId)] (drivingIn .hold))).mail.i0.cuts = [.scheduled mainId] ∧
    (run (.bankCut 0 .c2) (sent .c2 [.cut .i0 (.service .c2)] (drivingIn .hold))).mail.i0.cuts = [] := by decide

/-! ## Drives (the example of spec/07 section 7.8) -/

theorem test_peak : (run (.peak 140 .i0 { quiet with pk := true }) (drivingIn .boost)).slots.i0.phase = .hold ∧
    (run (.peak 140 .i0 { quiet with pk := true }) (drivingIn .boost)).slots.i0.faults = [] ∧
    (run (.peak 140 .i0 { quiet with pk := true }) (drivingIn .boost)).mail.i0.toBank = [.boostEnd 10140] := by decide

theorem test_early_peak : (run (.peak 59 .i0 { quiet with pk := true }) (drivingIn .boost)).slots.i0.faults = [.earlyPeak] ∧
    (run (.peak 60 .i0 { quiet with pk := true }) (drivingIn .boost)).slots.i0.faults = [] := by decide

theorem test_holdChop : (run (.holdChop 190 .i0 false) (drivingIn .hold)).slots.i0.battGate = true ∧
    (run (.holdChop 190 .i0 false) (drivingIn .boost)).slots.i0.battGate = false := by decide

/-- The drive in HOLD with the hold-loss timer stopped. -/
def aboveFloor : State :=
  let s := drivingIn .hold
  { s with slots := s.slots.set .i0 { s.slots.i0 with holdLossTimer := none } }

theorem test_floorEntry : (run (.floorEntry 5 .i0) aboveFloor).slots.i0.holdLossTimer = some 10055 ∧
    (run (.floorEntry 5 .i0) (drivingIn .hold)).slots.i0.holdLossTimer = some 10050 := by decide

theorem test_floorExit : (run (.floorExit 5 .i0) (drivingIn .hold)).slots.i0.holdLossTimer = none := by decide

theorem test_holdLossExpiry : (run (.holdLossExpiry 50 .i0 quiet) (drivingIn .hold)).slots.i0.cause = some (.fault .holdLoss) ∧
    (run (.holdLossExpiry 49 .i0 quiet) (drivingIn .hold)).slots.i0.phase = .hold := by decide

/-- The open coil of the example: OPEN_PEAK at 400, and the release completes at once. -/
theorem test_peakLimitExpiry :
    let t := run (.peakLimitExpiry 400 .i0 { quiet with zr := true }) (drivingIn .boost)
    t.slots.i0.phase = .off ∧ t.mail.i0.toBank = [.boostEnd 10400, .driveEnd, .releaseComplete] ∧ t.faults.c1.count = 1 ∧
      t.faults.c1.lastKind = some .openPeak ∧ t.ports.b.flags = 0x0400#16 := by decide

theorem test_trip : (run (.trip 10 .i0 { quiet with tr := true }) (drivingIn .hold)).slots.i0.cause = some (.fault .overcurrent) ∧
    (run (.trip 10 .i0 { quiet with tr := true }) (drivingIn .release)).slots.i0.phase = .release := by decide

theorem test_durationExpiry :
    (run (.durationExpiry 1200 .i0 quiet) (drivingIn .hold)).mail.i0.toCycle =
      [.driveEnd (.scheduled mainId) .time false 10000 11200] ∧
    (run (.durationExpiry 1199 .i0 quiet) (drivingIn .hold)).slots.i0.phase = .hold := by decide

theorem test_driverCut :
    (run (.driverCut 0 .i0 quiet) { drivingIn .hold with mail := turning.mail.set .i0 ⟨[], [], [.scheduled mainId]⟩ }).slots.i0.cause =
      some .cut := by decide

theorem test_zero : (run (.zero 90 .i0) (drivingIn .release)).slots.i0.phase = .off ∧
    (run (.zero 90 .i0) (drivingIn .release)).slots.i0.iref = ⟨0, 0, 0⟩ ∧
    (run (.zero 90 .i0) (drivingIn .release)).mail.i0.toBank = [.releaseComplete] := by decide

/-- The last drive of the run to isolation: EARLY_PEAK found before, RELEASE_SLOW now, count 2 and threshold 3. -/
def lastOfRun : State := { drivingIn .release with
  slots := (drivingIn .release).slots.set .i0 { (drivingIn .release).slots.i0 with faults := [.earlyPeak] }
  faults := turning.faults.set .c1 { CylinderFaults.reset with count := 2 } }

theorem test_releaseLimitExpiry :
    let t := run (.releaseLimitExpiry 200 .i0) lastOfRun
    t.faults.c1 = ⟨3, true, some .releaseSlow, 7, some .main⟩ ∧ t.ports.a.flags = 0x0C00#16 ∧
      t.mail.i0.toCycle = [.release (.scheduled mainId) (some .releaseSlow) 10200, .isolation .c1] ∧ t.lowGates.c1 = false := by decide

theorem test_reinstate : ask (.reinstate 0) 0x19#8 [(4, 1)] { rest with faults := rest.faults.set .c1 ⟨3, true, none, 0, none⟩ } =
    some (.ok, 0x13) ∧ ask (.reinstate 0) 0x19#8 [(4, 0)] rest = some (.range, 1) := by decide

/-! ## Service pulses (spec/10 section 10.5) -/

theorem test_servicePulse :
    ask (.servicePulse 0 quiet) 0x1C#8 [(4, 3), (15, 2000), (2, 0)] rest = some (.ok, 3) ∧
    (did (.servicePulse 0 quiet) 0x1C#8 [(4, 3), (15, 2000), (2, 0)] rest).banks.i0.holder = some (.service .c3) ∧
    ask (.servicePulse 0 quiet) 0x1C#8 [(4, 3), (15, 2000), (2, 0)] turning = some (.state, 2) := by decide

/-- A removal on its way (log 29) and an answer on its way (R175) keep no service pulse from starting; an acceptance does
(log 27). -/
theorem test_servicePulse_goes_by_open_records :
    ask (.servicePulse 0 quiet) 0x1C#8 [(4, 3), (15, 2000), (2, 0)] (armingNow (some mainAnswer) none rest) = some (.ok, 3) ∧
    ask (.servicePulse 0 quiet) 0x1C#8 [(4, 3), (15, 2000), (2, 0)] (sent .c1 [.removal .i0 mainId] { rest with
      banks := rest.banks.set .i0 { BankRecord.reset with queue := [⟨mainId, 9000⟩], offer := some ⟨mainId, 9000⟩ } }) = some (.ok, 3) ∧
    ask (.servicePulse 0 quiet) 0x1C#8 [(4, 3), (15, 2000), (2, 0)] (sent .c1 [.accept .i0 mainId .i0 1200] rest) = some (.state, 4) := by
  decide

theorem test_servicePulse_refusals :
    ask (.servicePulse 0 quiet) 0x1C#8 [(4, 7), (15, 2000), (2, 0)] rest = some (.range, 1) ∧
    ask (.servicePulse 0 quiet) 0x1C#8 [(4, 3), (15, 19), (2, 0)] rest = some (.range, 2) ∧
    ask (.servicePulse 0 quiet) 0x1C#8 [(4, 3), (15, 2000), (2, 1)] rest = some (.range, 3) := by decide

/-- A service pulse of port B on cylinder 3 in progress. -/
def serving (phase : ServicePhase) (r : Option ServiceResult) : State :=
  { rest with service := { inProgress := some ⟨phase, .b, .c3, .i0, 2000, r⟩, record := ⟨some .c3, .none, none, 0⟩ }
              lanes := rest.lanes.set .c3 { Lane.reset with injector := match phase with | .driving => .driving | .releasing => .releasing } }

theorem test_toothArrivalNotice :
    (run (.toothArrivalNotice 0) { serving .driving none with toothNotices := 1 }).lanes.c3.outbox = [.cut .i0 (.service .c3)] ∧
    (run (.toothArrivalNotice 0) { serving .releasing none with toothNotices := 1 }).lanes.c3.outbox = [] := by decide

theorem test_serviceDriveEnd :
    (run (.serviceDriveEnd 0 .i0) (reported [.driveEnd (.service .c3) .time false 0 2000] (serving .driving none))).service.inProgress =
      some ⟨.releasing, .b, .c3, .i0, 2000, some ⟨.time, 2000⟩⟩ := by decide

theorem test_serviceReleaseComplete :
    let t := run (.serviceReleaseComplete 2090 .i0) (reported [.release (.service .c3) none 2090] (serving .releasing (some ⟨.time, 2000⟩)))
    t.service = ⟨none, ⟨some .c3, .done, none, 2000⟩⟩ ∧ t.ports.b.flags = 0x1000#16 ∧ t.lanes.c3.injector = .dwell 2290 := by decide

theorem test_serviceRead :
    ask (.serviceRead 0) 0x1D#8 [] { rest with service := ⟨none, ⟨some .c3, .cut, none, 800⟩⟩ } = some (.ok, 3 + 16 * 2 + 65536 * 800) := by
  decide

/-! ## Ports (spec/08, spec/09) -/

/-- A frame of a request with tag 5. -/
def frame (code : Byte) (fields : List (Nat × Nat)) : Wire :=
  let body : List Byte := [code, 5] ++ (List.range 9).map fun k => BitVec.ofNat 8 (packBits fields / 2 ^ (8 * k))
  wireOf (body ++ [crc body])

/-- Port A exchanges a frame; its reply queue is empty. -/
def exchanging (s : State) : State := { s with ports := s.ports.set .a { s.ports.a with txn := .active 0 false } }

/-- Port A holds `n` requests. -/
def holding (n : Nat) (s : State) : State :=
  { s with ports := s.ports.set .a { s.ports.a with commands := List.replicate n (req 0x28#8 []) } }

set_option maxRecDepth 20000 in
/-- The idle reply of the reset state: header, NONE, flags 0, mask 0xFFFF, depth 0, check. -/
theorem test_idle_frame : (run (.transactionBegin 0 .a) State.reset).ports.a.txn =
    .active (wireOf [0x00, 0xFF, 0xFF, 0x00, 0x00, 0x00, 0x00, 0xFF, 0xFF, 0x00, 0x00,
      crc [0x00, 0xFF, 0xFF, 0x00, 0x00, 0x00, 0x00, 0xFF, 0xFF, 0x00, 0x00]]) false := by decide

/-- The header in FULL_SYNC with the plan CLOSED: sync code 4, bit 6, engine angle 864. -/
theorem test_header : (turning.summary .a) = 0x44#8 ∧ turning.angleWord = 864 := by decide

set_option maxRecDepth 20000 in
theorem test_transactionComplete :
    ((run (.transactionComplete 0 .a (frame 0x11#8 [(4, 1), (2, 2)])) (exchanging rest)).ports.a.commands.map
      fun r => (r.code.toNat, r.tag.toNat, r.params.toNat)) = [(0x11, 5, 33)] ∧
    (run (.transactionComplete 0 .a (frame 0x11#8 [(4, 1), (2, 2)] ^^^ 1)) (exchanging rest)).ports.a.flags = 0x8000#16 := by decide

set_option maxRecDepth 20000 in
/-- HOLD_N is asserted at the twelfth request; a seventeenth overflows. -/
theorem test_hold_and_overflow :
    (run (.transactionComplete 0 .a (frame 0x28#8 [])) (exchanging (holding 10 rest))).ports.a.hold = false ∧
    (run (.transactionComplete 0 .a (frame 0x28#8 [])) (exchanging (holding 11 rest))).ports.a.hold = true ∧
    (run (.transactionComplete 0 .a (frame 0x28#8 [])) (exchanging (holding 16 rest))).ports.a.flags = 0x4000#16 := by decide

theorem test_shortTransaction : (run (.shortTransaction 0 .a [true, false]) (exchanging rest)).ports.a.txn = .idle := by decide

set_option maxRecDepth 20000 in
theorem test_noneFrame :
    (run (.noneFrame 0 .a (frame 0x00#8 []).toNat) (exchanging rest)).ports.a.commands = [] ∧
    (run (.noneFrame 0 .a (frame 0x00#8 []).toNat) (exchanging rest)).ports.a.flags = 0 := by decide

set_option maxRecDepth 20000 in
theorem test_portReset :
    (run (.portReset 0 .a (frame 0x21#8 []).toNat) (exchanging (holding 3 rest))).ports.a.commands = [] ∧
    ((run (.portReset 0 .a (frame 0x21#8 []).toNat) (exchanging (holding 3 rest))).ports.a.replies.map fun r => r.data.toNat) = [3] := by
  decide

theorem test_rotation :
    ({ asked rest (req 0x28#8 []) with lastTaken := .b } : State).nextPort = some .a ∧
    ({ asked rest (req 0x28#8 []) with lastTaken := .a } : State).nextPort = some .a ∧ rest.nextPort = none := by decide

theorem test_unknownRequest : ask (.unknownRequest 0) 0x7F#8 [] rest = some (.unknown, 0) ∧
    ask (.unknownRequest 0) 0x28#8 [] rest = none := by decide

theorem test_portSetup : ask (.portSetup 0) 0x20#8 [(5, 16), (4, 4), (16, 0xFFFE)] rest = some (.ok, 16 + 256 * 4 + 65536 * 0xFFFE) ∧
    ask (.portSetup 0) 0x20#8 [(5, 4), (4, 4), (16, 0)] rest = some (.range, 2) := by decide

/-- The flags of the example of section 9.3. -/
def flagged : State := { rest with ports := rest.ports.set .a { rest.ports.a with flags := 0x0181, mask := 0xFFFE, attn := true } }

theorem test_flagsRead : ask (.flagsRead 0) 0x28#8 [] flagged = some (.ok, 0x0181 + 65536 * 0xFFFE + 2 ^ 32) := by decide

theorem test_flagsClear : ask (.flagsClear 0) 0x29#8 [(16, 0x0080)] flagged = some (.ok, 0x0181 + 65536 * 0x0101) ∧
    (did (.flagsClear 0) 0x29#8 [(16, 0x0080)] flagged).ports.a.attn = true ∧
    (did (.flagsClear 0) 0x29#8 [(16, 0x0180)] flagged).ports.a.attn = false := by decide

theorem test_cursorSet : (did (.cursorSet 0) 0x2A#8 [(3, 4), (4, 5), (4, 12), (1, 1)] rest).ports.a.cursor = ⟨.armed, .c5, 12, true⟩ ∧
    ask (.cursorSet 0) 0x2A#8 [(3, 6), (4, 5), (4, 1), (1, 1)] rest = some (.range, 3) := by decide

/-- Port A's cursor. -/
def looking (k : Cursor) (s : State) : State := { s with ports := s.ports.set .a { s.ports.a with cursor := k } }

theorem test_cursorRead : (did (.cursorRead 0) 0x2B#8 [] (looking ⟨.fault, .c6, 0, true⟩ rest)).ports.a.cursor = ⟨.fault, .c1, 0, true⟩ ∧
    ask (.cursorRead 0) 0x2B#8 [] (looking ⟨.stage, .c1, 0, false⟩ stagedA) =
      some (.ok, 2 + 256 * (16384 - 240) + 2 ^ 22 * 300) := by decide

theorem test_angleRead : ask (.angleRead 0) 0x2C#8 [(1, 0)] turning = some (.ok, 864 + 65536 * 864 + 2 ^ 32 * 2000) ∧
    ask (.angleRead 0) 0x2C#8 [(1, 0)] rest = some (.ok, 0xFFFF + 65536 * 0xFFFF) ∧
    ask (.angleRead 0) 0x2C#8 [(1, 1)] turning = some (.ok, 4) := by decide

/-! ## Witnesses: states and operands that meet the hypotheses of each statement that has any, for each of its clauses

The name after `witness_` is the statement's. Values are taken where the clauses meet. -/

/-- `rest` in another tracker state with a full-sized period window of 5,000 µs and its last tooth at time 10,000. -/
def cranking (sync : SyncState) (count : Nat) : State :=
  { rest with now := 10000
              tracker := { Tracker.reset with
                sync := sync, window := [5000, 5000, 5000, 5000], lastTooth := some 10000, candidateCount := count, stallOn := true
                copy := some refCopy } }

theorem gapLike_of {t : Tracker} {p : Nat} (h : t.gapLike p = true) : GapLike t p := (t.gapLike_iff p).1 h

theorem not_gapLike_of {t : Tracker} {p : Nat} (h : t.gapLike p = false) : ¬GapLike t p := (t.gapLike_false_iff p).1 h

theorem witness_TeethBeforeSync :
    rest.tracker.sync = .stopped ∧
    ((cranking .seeking 0).tracker.sync = .seeking ∧ (cranking .seeking 0).tracker.lastTooth = some 10000 ∧
      (cranking .seeking 0).tracker.copy = some refCopy) ∧
    GapLike (cranking .seeking 0).tracker ((cranking .seeking 0).now + 10000 - 10000) ∧
    ¬GapLike (cranking .seeking 0).tracker ((cranking .seeking 0).now + 9999 - 10000) ∧
    GapLike (cranking .candidate 57).tracker 10000 ∧ ¬GapLike (cranking .candidate 57).tracker 9999 ∧
    (cranking .candidate 57).tracker.candidateCount + 1 = refCopy.teeth - refCopy.missing ∧
    (cranking .candidate 56).tracker.candidateCount + 1 ≠ refCopy.teeth - refCopy.missing :=
  ⟨rfl, ⟨rfl, rfl, rfl⟩, gapLike_of (by decide), not_gapLike_of (by decide), gapLike_of (by decide), not_gapLike_of (by decide),
    by decide, by decide⟩

theorem witness_ToothBetweenGaps :
    Synced (turningIn .crankSync 56 false).tracker ∧ (turningIn .crankSync 56 false).tracker.lastTooth = some 10000 ∧
    (turningIn .crankSync 56 false).tracker.copy = some refCopy ∧
    (turningIn .crankSync 56 false).tracker.tooth ≠ refCopy.teeth - refCopy.missing - 1 ∧
    ¬GapLike (turningIn .crankSync 56 false).tracker ((turningIn .crankSync 56 false).now + 999 - 10000) ∧
    GapLike (turningIn .crankSync 56 false).tracker ((turningIn .crankSync 56 false).now + 1000 - 10000) :=
  ⟨.inl rfl, rfl, rfl, by decide, not_gapLike_of (by decide), gapLike_of (by decide)⟩

/-- COASTING at the last tooth before a gap, with or without phase held and with the given count of missed gaps. -/
def coastingAt (held : Bool) (missed : Nat) : State :=
  { turning with tracker := { turningTracker with sync := .coasting, tooth := 57, phaseHeld := held, missedGaps := missed, prevCam := none } }

/-- At the last tooth before the gap, at time 10,000, with the reference wheel. -/
abbrev AtGap (s : State) : Prop :=
  s.now = 10000 ∧ s.tracker.lastTooth = some 10000 ∧ s.tracker.copy = some refCopy ∧ s.tracker.tooth = refCopy.teeth - refCopy.missing - 1

theorem witness_MissedGapCoasts :
    (let s := turningIn .fullSync 57 true
     AtGap s ∧ Synced s.tracker ∧ ¬GapLike s.tracker (s.now + 999 - 10000) ∧ 1 < refCopy.coastLimit ∧ PhaseKnown s.tracker) ∧
    (let s := turningIn .crankSync 57 true
     AtGap s ∧ Synced s.tracker ∧ ¬GapLike s.tracker (s.now + 999 - 10000) ∧ 1 < refCopy.coastLimit ∧ ¬PhaseKnown s.tracker) ∧
    (let s := coastingAt true 1
     AtGap s ∧ Synced s.tracker ∧ ¬GapLike s.tracker (s.now + 999 - 10000) ∧ s.tracker.sync = .coasting ∧
      refCopy.coastLimit ≤ s.tracker.missedGaps + 1) := by
  refine ⟨⟨by decide, .inr (.inl rfl), not_gapLike_of (by decide), by decide, .inl rfl⟩,
    ⟨by decide, .inl rfl, not_gapLike_of (by decide), by decide, ?_⟩,
    by decide, .inr (.inr rfl), not_gapLike_of (by decide), rfl, by decide⟩
  exact fun h => h.elim (fun e => nomatch e) (fun e => nomatch e.1)

theorem witness_GapGainsPhase :
    (let s := turningIn .crankSync 57 false
     AtGap s ∧ s.tracker.sync = .crankSync ∧ GapLike s.tracker (s.now + 1000 - 10000) ∧ s.tracker.prevCam = some (!false) ∧
      s.tracker.prevCam ≠ some (!true)) ∧
    (let s := coastingAt false 1
     AtGap s ∧ s.tracker.sync = .coasting ∧ s.tracker.phaseHeld = false ∧ GapLike s.tracker (s.now + 1000 - 10000) ∧
      s.tracker.prevCam ≠ some (!true)) :=
  ⟨⟨by decide, rfl, gapLike_of (by decide), rfl, by decide⟩, by decide, rfl, rfl, gapLike_of (by decide), by decide⟩

/-- At the gap that begins revolution 0 the level expected is 1: a match, a first mismatch and the mismatch that drops phase. -/
theorem witness_PhaseCheckedAtGap :
    (let s := turningIn .fullSync 57 true
     AtGap s ∧ PhaseKnown s.tracker ∧ GapLike s.tracker (s.now + 1000 - 10000) ∧ ((!s.tracker.rev) != refCopy.cam0) = true ∧
      ¬refCopy.phaseMissLimit ≤ s.tracker.phaseMisses + 1) ∧
    (let s := { turning with tracker := { turningTracker with tooth := 57, rev := true, phaseMisses := 1 } }
     AtGap s ∧ PhaseKnown s.tracker ∧ GapLike s.tracker (s.now + 1000 - 10000) ∧
      refCopy.phaseMissLimit ≤ s.tracker.phaseMisses + 1) ∧
    (let s := coastingAt true 1
     AtGap s ∧ PhaseKnown s.tracker ∧ GapLike s.tracker (s.now + 1000 - 10000)) :=
  ⟨⟨by decide, .inl rfl, gapLike_of (by decide), by decide, by decide⟩, ⟨by decide, .inl rfl, gapLike_of (by decide), by decide⟩,
    by decide, .inr ⟨rfl, rfl⟩, gapLike_of (by decide)⟩

theorem witness_InterpolationStaysShortOfNextTooth :
    turningTracker.copy = some refCopy ∧ 0 < refCopy.teeth ∧ refCopy.missing < refCopy.teeth ∧ 5760 % refCopy.teeth = 0 ∧
    turningTracker.tooth ≤ refCopy.teeth - refCopy.missing - 1 ∧ turningTracker.lastTooth = some 10000 ∧
    turningTracker.window = 500 :: [500, 500, 500] ∧ (57 ≤ refCopy.teeth - refCopy.missing - 1) := by decide

theorem witness_StallStopsTracker :
    turning.tracker.stallOn = true ∧ turning.tracker.lastTooth = some 10000 ∧
    10000 + 1000 * refCopy.stallMs ≤ turning.now + 200000 ∧ turning.now + 199999 < 10000 + 1000 * refCopy.stallMs ∧
    ({ State.reset with tracker := { Tracker.reset with sync := .seeking, lastTooth := some 0, stallOn := true } } : State).tracker.copy =
      none ∧
    turning.tracker.sync ≠ .stopped ∧
    (let t := { rest.tracker with stallOn := true, lastTooth := some 0 }
     t.sync = .stopped ∧ t.stallOn = true ∧ t.lastTooth = some 0) := by decide

theorem witness_EveryToothArrivalIsHandedOver :
    0 < ({ serving .driving none with toothNotices := 1 } : State).toothNotices ∧
    (serving .driving none).service.inProgress = some ⟨.driving, .b, .c3, .i0, 2000, none⟩ ∧
    (serving .releasing none).service.inProgress = some ⟨.releasing, .b, .c3, .i0, 2000, none⟩ ∧
    (0 < ({ rest with toothNotices := 1 } : State).toothNotices ∧ rest.service.inProgress = none) ∧ rest.toothNotices = 0 := by decide

/-! Requests: port A holds the request, its reply queue is empty, and the port last taken from is B. -/

theorem next_rest (r : Request) : (asked rest r).NextIs .a r [] := nextIs_asked r (by decide) rfl

theorem next_open (r : Request) : (asked open_ r).NextIs .a r [] := nextIs_asked r (by decide) rfl

theorem witness_FieldsPackedFromBitZero : (3 : Nat) < 14 ∧ ([(4, 1)].map Prod.fst).sum ≤ 4 ∧ (8 : Nat) < 9 ∧ (7 : Nat) < 8 := by decide

/-- The three requests on an OPEN and on a CLOSED plan, with a field at the end of its range and past it. -/
theorem witness_PlanSetGroupsWithoutIndex :
    (let r := req 0x01#8 [(4, 8), (7, 72), (2, 1), (6, 32)]
     (asked open_ r).NextIs .a r [] ∧ (asked rest r).NextIs .a r [] ∧ r.code = 0x01#8 ∧ (asked open_ r).plan.closed = false ∧
      (asked rest r).plan.closed = true ∧ field r.params 4 7 = 72) ∧
    (let r := req 0x01#8 [(4, 8), (7, 73), (2, 1), (6, 32)]
     (asked open_ r).NextIs .a r [] ∧ r.code = 0x01#8 ∧ field r.params 4 7 = 73) ∧
    (let r := req 0x03#8 [(13, 5760)]
     (asked open_ r).NextIs .a r [] ∧ r.code = 0x03#8) ∧
    (let r := req 0x07#8 [(4, 8)]
     (asked open_ r).NextIs .a r [] ∧ r.code = 0x07#8) :=
  ⟨⟨next_open _, next_rest _, rfl, rfl, rfl, by decide⟩, ⟨next_open _, rfl, by decide⟩, ⟨next_open _, rfl⟩, next_open _, rfl⟩

/-- The four requests, with the last index in range and one outside it where there is one. -/
theorem witness_PlanSetGroupsWithIndex :
    (let r := req 0x02#8 [(4, 8)]
     (asked open_ r).NextIs .a r [] ∧ r.code = 0x02#8 ∧ field r.params 0 4 = Cyl.num .c8) ∧
    (let r := req 0x02#8 [(4, 9)]
     (asked open_ r).NextIs .a r [] ∧ r.code = 0x02#8 ∧ ∀ c : Cyl, field r.params 0 4 ≠ c.num) ∧
    (let r := req 0x04#8 [(3, 4)]
     (asked open_ r).NextIs .a r [] ∧ r.code = 0x04#8 ∧ field r.params 0 3 = kindCode .post) ∧
    (let r := req 0x04#8 [(3, 0)]
     (asked open_ r).NextIs .a r [] ∧ r.code = 0x04#8 ∧ ∀ k : Kind, field r.params 0 3 ≠ kindCode k) ∧
    (let r := req 0x05#8 [(2, 3)]
     (asked open_ r).NextIs .a r [] ∧ r.code = 0x05#8 ∧ field r.params 0 2 = Four.num .i3) ∧
    (let r := req 0x06#8 [(2, 0)]
     (asked open_ r).NextIs .a r [] ∧ r.code = 0x06#8 ∧ field r.params 0 2 = Four.num .i0) := by
  refine ⟨⟨next_open _, rfl, by decide⟩, ⟨next_open _, rfl, ?_⟩, ⟨next_open _, rfl, by decide⟩, ⟨next_open _, rfl, ?_⟩,
    ⟨next_open _, rfl, by decide⟩, next_open _, rfl, by decide⟩ <;> intro x <;> cases x <;> decide

/-- Each group, each kind of index and each part, in range and just outside it. -/
theorem witness_PlanReadShowsOneInstance :
    (∀ group index part, let r := req 0x08#8 [(3, group), (4, index), (1, part)]
      (asked rest r).NextIs .a r [] ∧ r.code = 0x08#8) ∧
    (∀ g ∈ [0, 1, 2, 3, 4, 5, 6, 7], field (req 0x08#8 [(3, g), (4, 0), (1, 0)]).params 0 3 = g) ∧
    (field (req 0x08#8 [(3, 1), (4, 8), (1, 0)]).params 3 4 = Cyl.num .c8 ∧
      ∀ c : Cyl, field (req 0x08#8 [(3, 1), (4, 9), (1, 0)]).params 3 4 ≠ c.num) ∧
    (field (req 0x08#8 [(3, 3), (4, 1), (1, 0)]).params 3 4 = kindCode .main ∧
      ∀ k : Kind, field (req 0x08#8 [(3, 3), (4, 5), (1, 0)]).params 3 4 ≠ kindCode k) ∧
    (field (req 0x08#8 [(3, 4), (4, 3), (1, 0)]).params 3 4 = Four.num .i3 ∧
      ∀ i : Four, field (req 0x08#8 [(3, 5), (4, 4), (1, 0)]).params 3 4 ≠ i.num) ∧
    field (req 0x08#8 [(3, 5), (4, 0), (1, 1)]).params 7 1 = 1 ∧ field (req 0x08#8 [(3, 5), (4, 0), (1, 0)]).params 7 1 = 0 := by
  refine ⟨fun _ _ _ => ⟨next_rest _, rfl⟩, by decide, ⟨by decide, ?_⟩, ⟨by decide, ?_⟩, ⟨by decide, ?_⟩, by decide, by decide⟩ <;>
    intro x <;> cases x <;> decide

theorem open_passes : ∀ n, 1 ≤ n → n ≤ 10 → open_.plan.ClosePasses n :=
  Plan.firstFailure_closeChecks_none.1 (by decide)

/-- `open_` with a wheel of 12 less 3, which fails check 10 alone. -/
def openGapTooWide : State := { open_ with plan := { openPlan with engine := ⟨true, ⟨6, 12, 3, 16, true⟩⟩ } }

theorem witness_PlanCloseRefusedAtFirstFailingCheck :
    (let r := req 0x09#8 []
     (asked rest r).NextIs .a r [] ∧ r.code = 0x09#8 ∧ (asked rest r).plan.closed = true) ∧
    (let r := req 0x09#8 []
     let s := asked State.reset r
     s.NextIs .a r [] ∧ s.plan.closed = false ∧ ¬s.plan.ClosePasses 1) ∧
    (let r := req 0x09#8 []
     let s := asked openGapTooWide r
     s.NextIs .a r [] ∧ s.plan.closed = false ∧ (∀ m, 1 ≤ m → m < 10 → s.plan.ClosePasses m) ∧ ¬s.plan.ClosePasses 10) := by
  refine ⟨⟨next_rest _, rfl, rfl⟩, ⟨nextIs_asked _ (by decide) rfl, rfl, ?_⟩, nextIs_asked _ (by decide) rfl, rfl, ?_, ?_⟩
  · exact fun h => absurd (show State.reset.plan.engine.isSet = true from h) (by decide)
  · intro m h1 h2
    have e := open_passes m h1 (by omega)
    rcases (by omega : m = 1 ∨ m = 2 ∨ m = 3 ∨ m = 4 ∨ m = 5 ∨ m = 6 ∨ m = 7 ∨ m = 8 ∨ m = 9) with
        h | h | h | h | h | h | h | h | h <;> subst h
    all_goals exact e
  · exact fun h => absurd (show 4 * 3 < 12 from h) (by decide)

/-- A close at rest; one that finds another wheel and a counting tracker; one that finds the new timeout passed; one of each of the
last two at once; and one with phase known and the wheel kept, at engine angle 3,456: cylinder 3 is withheld, whose arming point is
1,600, and cylinder 2, armed at 5,440 in this cycle, but not cylinder 1, whose arming point is 9,280. -/
theorem witness_PlanCloseLoadsWorkingCopy :
    (let r := req 0x09#8 []
     let s := asked open_ r
     s.NextIs .a r [] ∧ r.code = 0x09#8 ∧ s.plan.closed = false ∧ (∀ n, 1 ≤ n → n ≤ 10 → s.plan.ClosePasses n) ∧
      s.tracker.sync = .stopped) ∧
    (let r := req 0x09#8 []
     let s := asked { open_ with tracker := { turningTracker with copy := some { refCopy with teeth := 36 } } } r
     s.NextIs .a r [] ∧ s.plan.closed = false ∧ (∀ n, 1 ≤ n → n ≤ 10 → s.plan.ClosePasses n) ∧ s.tracker.sync = .fullSync ∧
      ({ refCopy with teeth := 36 } : WorkingCopy).teeth ≠ s.plan.engine.val.teeth) ∧
    (let r := req 0x09#8 []
     let s := asked { open_ with now := 210000, tracker := turningTracker } r
     s.NextIs .a r [] ∧ s.plan.closed = false ∧ (∀ n, 1 ≤ n → n ≤ 10 → s.plan.ClosePasses n) ∧ s.tracker.stallOn = true ∧
      s.tracker.lastTooth = some 10000 ∧ 10000 + 1000 * s.plan.limits.val.stallMs ≤ s.now + 0) ∧
    (let r := req 0x09#8 []
     let s := asked { open_ with now := 210000, tracker := { turningTracker with copy := some { refCopy with teeth := 36 } } } r
     s.NextIs .a r [] ∧ s.tracker.sync ≠ .stopped ∧ s.tracker.sync ≠ .seeking ∧ s.tracker.stallOn = true ∧
      s.tracker.lastTooth = some 10000 ∧ 10000 + 1000 * s.plan.limits.val.stallMs ≤ s.now + 0) ∧
    (let r := req 0x09#8 []
     let marks := { turningTracker.marks with armedAt := turningTracker.marks.armedAt.set .c2 (some 5440) }
     let s := asked { open_ with now := 10000, tracker := { turningTracker with tooth := 36, marks := marks } } r
     let e := s.plan.engine.val
     let arms := fun c : Cyl => (s.plan.cylinder.get c).val.tdc + 11520 - s.plan.timing.val.advance
     s.NextIs .a r [] ∧ s.plan.closed = false ∧ (∀ n, 1 ≤ n → n ≤ 10 → s.plan.ClosePasses n) ∧ PhaseKnown s.tracker ∧
      s.tracker.copy = some refCopy ∧ (refCopy.teeth = e.teeth ∧ refCopy.missing = e.missing ∧ refCopy.gapRatio = e.gapRatio ∧
        refCopy.cam0 = e.cam0) ∧ s.now < 10000 + 1000 * s.plan.limits.val.stallMs ∧ s.tracker.marks.laps = 0 ∧
      s.tracker.marks.gainPos ≤ 1600 ∧ s.tracker.position s.now = 3456 ∧ arms .c3 % 11520 = 1600 ∧
      (s.tracker.marks.armedAt.get .c2 = some 5440) ∧ (s.tracker.marks.armedAt.get .c1 = none ∧ arms .c1 % 11520 = 9280)) :=
  ⟨⟨next_open _, rfl, rfl, open_passes, rfl⟩, ⟨nextIs_asked _ (by decide) rfl, rfl, open_passes, rfl, by decide⟩,
    ⟨nextIs_asked _ (by decide) rfl, rfl, open_passes, rfl, rfl, by decide⟩,
    ⟨nextIs_asked _ (by decide) rfl, by decide, by decide, rfl, rfl, by decide⟩,
    nextIs_asked _ (by decide) rfl, rfl, open_passes, .inl rfl, rfl, by decide, by decide, rfl, by decide, by decide, by decide, rfl, rfl,
    by decide⟩

theorem rest_nothingArmed : ∀ c, NothingArmed (rest.lane c) := (State.nothingArmed_iff rest).1 (by decide)

theorem rest_noOpenRecord : ∀ c, NoOpenRecord (rest.lane c) := (State.noOpenRecord_iff rest).1 (by decide)

theorem rest_banksAtRest : ∀ b, BankAtRest rest b := by
  intro b; exact (State.bankAtRest_iff _ _).1 (by cases b <;> decide)

/-- Each condition failing first, and all of them holding with and without the other port's vote. -/
theorem witness_PlanOpenNeedsBothVotes :
    (let r := req 0x0A#8 []
     let s := asked rest r
     s.NextIs .a r [] ∧ r.code = 0x0A#8 ∧ s.plan.closed = true ∧ s.tracker.sync = .stopped ∧
      (∀ c, NothingArmed (s.lane c)) ∧ s.service.inProgress = none ∧ (∀ b, BankAtRest s b) ∧ s.plan.votes.get .b = false) ∧
    (let r := req 0x0A#8 []
     let s := asked { rest with plan := { refPlan with votes := ⟨false, true⟩ } } r
     s.NextIs .a r [] ∧ s.plan.closed = true ∧ s.tracker.sync = .stopped ∧ s.plan.votes.get .b = true) ∧
    open_.plan.closed = false ∧ (turning.plan.closed = true ∧ turning.tracker.sync ≠ .stopped) ∧
    ((lane1 (withRecord [pulseAt .main 0 500 .a .i0 .pending]) rest).lane .c1).current ≠ none ∧
    (serving .driving none).service.inProgress ≠ none ∧
    ({ rest with banks := rest.banks.set .i0 { BankRecord.reset with state := .recovering } } : State).banks.i0.state ≠ .idle ∧
    PulsesUnderWay ((armingNow (some mainAnswer) none rest).lane .c1) ∧
    ¬BankAtRest (sent .c1 [.accept .i0 mainId .i0 1200] rest) .i0 :=
  ⟨⟨next_rest _, rfl, rfl, rfl, rest_nothingArmed, rfl, rest_banksAtRest, rfl⟩, ⟨nextIs_asked _ (by decide) rfl, rfl, rfl, rfl⟩, rfl,
    ⟨rfl, by decide⟩, by decide, by decide, by decide, (Lane.pulsesUnderWay_iff _).1 (by decide),
    fun h => absurd ((State.bankAtRest_iff _ _).2 h) (by decide)⟩

/-- A pulse that passes every check on the last cylinder, and cylinder numbers just outside the plan. -/
theorem witness_SlotRequestsWriteOneSlot :
    (let r := req 0x10#8 [(4, 6), (2, 3), (3, 4), (2, 0), (14, 4799), (15, 20000)]
     (asked rest r).NextIs .a r [] ∧ (asked open_ r).NextIs .a r [] ∧ r.code = 0x10#8 ∧ rest.plan.count ≤ 8 ∧
      Four.num .i3 = field r.params 4 2 ∧ Four.num .i0 = field r.params 9 2 ∧ (asked rest r).plan.closed = true ∧
      (asked open_ r).plan.closed = false ∧ field r.params 0 4 = 6 ∧ field r.params 6 3 = 4 ∧ signedField r.params 11 14 = 4799 ∧
      field r.params 25 15 = 20000) ∧
    (let r := req 0x11#8 [(4, 7)]
     (asked rest r).NextIs .a r [] ∧ r.code = 0x11#8 ∧ Four.num .i0 = field r.params 4 2 ∧ Four.num .i0 = field r.params 9 2 ∧
      field r.params 0 4 = rest.plan.count + 1) ∧
    (let r := req 0x11#8 [(4, 6)]
     (asked rest r).NextIs .a r [] ∧ field r.params 0 4 = rest.plan.count) :=
  ⟨⟨next_rest _, next_open _, rfl, by decide, by decide, by decide, rfl, rfl, by decide, by decide, by decide, by decide⟩,
    ⟨next_rest _, rfl, by decide, by decide, by decide⟩, next_rest _, by decide⟩

/-- A mask of every cylinder of the plan, and one that names a cylinder above the count. -/
theorem witness_MaskRequestsActWholeOrNotAtAll :
    (let r := req 0x12#8 [(8, 0x3F)]
     (asked rest r).NextIs .a r [] ∧ (asked open_ r).NextIs .a r [] ∧ r.code = 0x12#8 ∧ (asked rest r).plan.closed = true ∧
      (asked open_ r).plan.closed = false ∧ ∀ c : Cyl, r.params.getLsbD (c.num - 1) = true → c.num ≤ (asked rest r).plan.count) ∧
    (let r := req 0x13#8 [(8, 0x40)]
     (asked rest r).NextIs .a r [] ∧ r.code = 0x13#8 ∧ r.params.getLsbD (Cyl.num .c7 - 1) = true ∧
      (asked rest r).plan.count < Cyl.num .c7) := by
  refine ⟨⟨next_rest _, next_open _, rfl, rfl, rfl, ?_⟩, next_rest _, rfl, by decide, by decide⟩
  intro c; cases c <;> decide

theorem witness_PublishAndWithdrawRecompute :
    (asked merged (req 0x14#8 [(8, 1)])).NextIs .a (req 0x14#8 [(8, 1)]) [] ∧ merged.plan.closed = true ∧
    (∀ c : Cyl, (req 0x14#8 [(8, 1)]).params.getLsbD (c.num - 1) = true → c.num ≤ merged.plan.count) ∧
    (req 0x14#8 [(8, 1)]).params.getLsbD (Cyl.num .c1 - 1) = true ∧ (req 0x14#8 [(8, 1)]).params.getLsbD (Cyl.num .c2 - 1) = false := by
  refine ⟨nextIs_asked _ (by decide) rfl, rfl, ?_, by decide, by decide⟩
  intro c; cases c <;> decide

theorem witness_CutoutAndReinstate :
    (let r := req 0x18#8 [(8, 0x21)]
     (asked rest r).NextIs .a r [] ∧ r.code = 0x18#8) ∧
    (let r := req 0x19#8 [(4, 8)]
     (asked rest r).NextIs .a r [] ∧ r.code = 0x19#8 ∧ field r.params 0 4 = Cyl.num .c8) ∧
    (let r := req 0x19#8 [(4, 9)]
     (asked rest r).NextIs .a r [] ∧ r.code = 0x19#8 ∧ ∀ c : Cyl, field r.params 0 4 ≠ c.num) := by
  refine ⟨⟨next_rest _, rfl⟩, ⟨next_rest _, rfl, by decide⟩, next_rest _, rfl, ?_⟩
  intro c; cases c <;> decide

/-- An arming without an answer, with one contribution that expires at it and one with no limit. -/
theorem witness_ArmingNoticeStepsLiveAges :
    ((armingNow none none merged).lane .c1).arming = some ⟨7, 9280, 3200, none, none⟩ ∧
    (merged.tables.contribution .b .c1).state = .live ∧ (merged.tables.contribution .b .c2).state ≠ .live := by decide

theorem witness_ArmingNoticeAnswersAndExpires :
    ((armingNow none none merged).lane .c1).arming = some ⟨7, 9280, 3200, none, none⟩ ∧
    (merged.tables.contribution .b .c1).age + 1 = merged.plan.limits.val.freshness.get .b ∧
    merged.plan.limits.val.freshness.get .a = 0 := by decide

def rankedA : Merged := ⟨⟨.post, .i0, 400, 500⟩, .a, .i0⟩

def rankedB : Merged := ⟨⟨.post, .i0, 200, 500⟩, .b, .i1⟩

theorem witness_RankingIsTotal :
    kindRank .post < kindRank .main ∧ (rankedA.pulse.kind = rankedB.pulse.kind ∧ rankedA.port ≠ rankedB.port) ∧
    refPlan.ranksBefore rankedB rankedA = true ∧ ({ rankedA with slot := .i1 } : Merged).slot ≠ rankedA.slot := by decide

theorem witness_MergedListKeepsItsBounds : 1 ≤ refPlan.timing.val.minSeparation ∧
    (∃ v, (refPlan.verdicts mergedA mergedB)[7]? = some v ∧ v.2 ≠ .accepted) ∧
    (mergedA.state = .live ∧ mergedA.pulses.get .i0 = some ⟨.pilot, .i0, -560, 250⟩) ∧ Contribution.absent.state ≠ .live ∧
    ((live none none none none).state = .live ∧ (live none none none none).pulses.get .i3 = none) :=
  ⟨by decide, ⟨_, rfl, by decide⟩, by decide, by decide, by decide⟩

theorem witness_PointsLieWhereThePlanPutsThem :
    (∀ c, refCopy.tdc.get c ≤ 11519) ∧ refCopy.advance ≤ 5760 ∧
    -(((record [pulseAt .pilot (-3136) 300 .a .i0 .pending]).advance : Nat) : Int) ≤ (-3136 : Int) := by
  refine ⟨?_, by decide, by decide⟩
  intro c; cases c <;> decide

/-- A superseded record that drives and a current one that waits, as the next arming point is reached. -/
theorem witness_ArmingPointClosesOldCycle :
    let s := lane1 { withRecord [pulseAt .post 100 500 .a .i0 (.due 9000 9900 .bank)] with
      superseded := some (record [pulseAt .main 0 500 .b .i0 (.energized 9500)]) } atArming
    (s.tracker.copy = some refCopy ∧ Cyl.num .c1 ≤ refCopy.count ∧ (s.lane .c1).arming = none ∧
      PointAtHand s (s.now + 334) (s.tracker.nextArming refCopy .c1)) ∧
    ¬PointAtHand s (s.now + 333) (s.tracker.nextArming refCopy .c1) ∧ refCopy.count < Cyl.num .c7 ∧
    ((armingNow none none turning).lane .c1).arming ≠ none ∧ State.reset.tracker.copy = none :=
  ⟨⟨rfl, by decide, rfl, (State.advance_pointReached_iff _ 334 _).1 (by decide)⟩,
    fun h => absurd ((State.advance_pointReached_iff _ 333 _).2 h) (by decide), by decide, by decide, rfl⟩

theorem witness_ArmingAnswerMakesTheRecord :
    let x : ArmingAnswer := ⟨[⟨⟨.main, .i0, -32, 1200⟩, .a, .i2⟩], 3, false⟩
    ((armingNow (some x) none turning).lane .c1).arming = some ⟨7, 9280, 3200, none, some x⟩ ∧
    ((armingNow (some x) (some .stop) turning).lane .c1).arming = some ⟨7, 9280, 3200, some .stop, some x⟩ := by decide

theorem witness_DwellEndOpensTheGate :
    let l := { withRecord [pulseAt .main (-32) 1200 .a .i0 (.due 9000 20000 .cylinder)] with injector := .dwell 10005 }
    ((lane1 l turning).lane .c1).injector = .dwell 10005 ∧ 10005 ≤ turning.now + 5 ∧ turning.now + 4 < 10005 ∧
    (withRecord [pulseAt .main (-32) 1200 .a .i0 (.due 9000 20000 .cylinder)]).injector = .ready ∧
    (record [pulseAt .main (-32) 1200 .a .i0 (.due 9000 20000 .cylinder)]).pulses[0]? =
      some (pulseAt .main (-32) 1200 .a .i0 (.due 9000 20000 .cylinder)) ∧
    .entry .i1 (entry .c5 .main 240) 2 ∈ (handedTwice.lane .c5).outbox := by decide

theorem witness_StartPointMakesThePulseDue :
    ((beforePilot .pending).lane .c1).current = some (record [pulseAt .pilot (-10) 300 .a .i0 .pending]) ∧
    (record [pulseAt .pilot (-10) 300 .a .i0 .pending]).pulses[0]? = some (pulseAt .pilot (-10) 300 .a .i0 .pending) ∧
    (let pos := (record [pulseAt .pilot (-10) 300 .a .i0 .pending]).startPos (pulseAt .pilot (-10) 300 .a .i0 .pending)
     PointAtHand (beforePilot .pending) ((beforePilot .pending).now + 448) pos ∧
      ¬PointAtHand (beforePilot .pending) ((beforePilot .pending).now + 447) pos ∧
      (let t := run (.toothArrival 440 false) (beforePilot .pending)
       PointAtHand t (t.now + 0) pos ∧ ∃ j ∈ t.tracker.marks.jumps, j.start < pos ∧ pos < j.stop)) :=
  ⟨rfl, rfl, (State.advance_pointReached_iff _ 448 _).1 (by decide),
    fun h => absurd ((State.advance_pointReached_iff _ 447 _).2 h) (by decide),
    (State.advance_pointReached_iff _ 0 _).1 (by decide), by decide⟩

theorem witness_DeadlineDropsThePulse :
    ((beforePilot (.due 10000 10600 .bank)).lane .c1).current = some (record [pulseAt .pilot (-10) 300 .a .i0 (.due 10000 10600 .bank)]) ∧
    10600 ≤ (beforePilot (.due 10000 10600 .bank)).now + 600 ∧ (beforePilot (.due 10000 10600 .bank)).now + 599 < 10600 := by decide

/-- `latePost` at the last tooth before the gap. -/
def laterPost : State := { latePost with tracker := { latePost.tracker with tooth := 57 } }

/-- The clipped post, offered where it just fits (angle 4,416), where 29 steps and where 28 steps are left to it. -/
theorem witness_GrantOfferClipsToTheEndLimit :
    ((latePost.bank .i0).offer = some ⟨⟨.c1, 7, 0, .post⟩, 10000⟩ ∧
      (latePost.lane .c1).current = some (record [pulseAt .post 4400 2000 .b .i0 (.due 10000 12000 .bank)]) ∧
      latePost.tracker.sync = .fullSync ∧ latePost.syncToCycle = [] ∧ latePost.now + 1917 ≤ 12000 ∧
      latePost.tracker.copy = some refCopy ∧ latePost.tracker.window = 500 :: [500, 500, 500]) ∧
    (let angle := ((latePost.tracker.engineAngle (latePost.now + 0) : Int) - 9280) % 11520 - 3200
     angle = 4416 ∧ angle + (2000 * 96 / 500 : Nat) = 4800) ∧
    (let angle := ((laterPost.tracker.engineAngle (laterPost.now + 1350) : Int) - 9280) % 11520 - 3200
     angle = 4771 ∧ 150 ≤ (4800 - angle).toNat * 500 / 96) ∧
    (let angle := ((laterPost.tracker.engineAngle (laterPost.now + 1355) : Int) - 9280) % 11520 - 3200
     angle = 4772 ∧ (4800 - angle).toNat * 500 / 96 < 150) := by decide

theorem witness_DriveEndAndReleaseReachTheLane :
    let driven := record [pulseAt .main (-32) 1200 .a .i2 (.energized 10000)]
    let report := CycleReport.driveEnd (.scheduled mainId) .time false 10000 11200
    let inCurrent := reported [report] (lane1 { Lane.reset with current := some driven } turning)
    let inSuperseded := reported [report] (lane1 { Lane.reset with superseded := some driven } turning)
    ((inCurrent.mailOf .i0).toCycle = [report] ∧ (inCurrent.lane .c1).current = some driven ∧ driven.cycle = mainId.cycle ∧
      (inCurrent.lane .c1).superseded = none) ∧
    ((inSuperseded.lane .c1).superseded = some driven ∧ (inSuperseded.lane .c1).current = none) ∧
    (let ended := record [pulseAt .main (-32) 1200 .a .i2 .cut]
     ended.cycle = mainId.cycle ∧ ended.pulses[0]? = some (pulseAt .main (-32) 1200 .a .i2 .cut) ∧
      (pulseAt .main (-32) 1200 .a .i2 .cut).state.drives = false) ∧
    ((reported [report] turning).lane .c1).drivenPulse mainId = none ∧
    ((reported [.release (.scheduled mainId) none 9990] turning).mailOf .i0).toCycle = [.release (.scheduled mainId) none 9990] := by decide

theorem witness_SyncChangesAndIsolationsTaken :
    (let n : SyncNotice := ⟨.fullSync, .stopped, true, false⟩
     ({ beforePilot .pending with syncToCycle := [n], syncToTable := [n] } : State).syncToCycle = [n] ∧ n.losesPhase = true) ∧
    (let n : SyncNotice := ⟨.fullSync, .coasting, true, true⟩
     ({ beforePilot .pending with syncToCycle := [n] } : State).syncToCycle = [n] ∧ n.losesPhase = false) ∧
    (let n : SyncNotice := ⟨.stopped, .seeking, false, false⟩
     ({ rest with syncToTable := [n] } : State).syncToTable = [n] ∧ n.old = .stopped) ∧
    ((reported [.isolation .c1] (beforePilot .pending)).mailOf .i0).toCycle = [.isolation .c1] := by decide

/-- An entry that no other precedes, one that an entry of equal due time precedes (`handedTwice`), and the other two messages. -/
theorem witness_WaitQueueKeepsItsOrder :
    (let s := sent .c6 [.entry .i1 (entry .c6 .after 240) 1] (bank1 [entry .c5 .post 100] turning)
     (s.lane .c6).outbox = [.entry .i1 (entry .c6 .after 240) 1] ∧ JoinsFirst s .i1 240 1 ∧ QueueOrdered (s.bank .i1).queue) ∧
    ((handedTwice.lane .c5).outbox = [.entry .i1 (entry .c5 .main 240) 2] ∧ ¬JoinsFirst handedTwice .i1 240 2) ∧
    ((sent .c5 [.removal .i1 ⟨.c5, 7, 0, .post⟩] turning).lane .c5).outbox = [.removal .i1 ⟨.c5, 7, 0, .post⟩] ∧
    ((sent .c1 [.refuse .i0 mainId] turning).lane .c1).outbox = [.refuse .i0 mainId] := by
  refine ⟨⟨by decide, (State.joinWaits_false_iff ..).1 (by decide), ?_⟩, ⟨by decide, fun h => ?_⟩, by decide, by decide⟩
  · unfold QueueOrdered; decide
  · exact absurd ((State.joinWaits_false_iff ..).2 h) (by decide)

theorem witness_OfferAcceptStartsTheDrive :
    let s := offering (.accept .i0 mainId .i0 1200)
    (s.lane .c1).outbox = [.accept .i0 mainId .i0 1200] ∧ (s.bank .i0).state = .idle ∧ (s.bank .i0).preempt = none ∧
    (s.bank .i0).offer = some ⟨mainId, 9000⟩ ∧
    ((sent .c1 [.accept .i0 mainId .i0 1200] (drivingIn .hold)).bank .i0).state ≠ .idle := by decide

theorem witness_BankFollowsDriveAndRecharge :
    ((bankTold [.boostEnd 9900] (drivingIn .hold)).mailOf .i0).toBank = [.boostEnd 9900] ∧
    (((bankTold [.driveEnd] (drivingIn .release)).mailOf .i0).toBank = [.driveEnd] ∧
      ((bankTold [.driveEnd] (drivingIn .release)).bank .i0).state = .held) ∧
    (((bankTold [.releaseComplete] (releasing .done)).mailOf .i0).toBank = [.releaseComplete] ∧
      ((releasing .done).bank .i0).state = .releasing ∧ ((releasing .done).bank .i0).recharge = .done ∧
      ((releasing (.running 10700)).bank .i0).recharge ≠ .done) ∧
    ((recovering.bank .i0).recharge = .running 10700 ∧ 10700 ≤ recovering.now + 700 ∧ recovering.now + 699 < 10700) := by decide

theorem witness_CutsReachOnlyTheNamedHolder :
    ((preempting.bank .i0).preempt = some ⟨10100, entry .c2 .pilot 9000⟩ ∧ 10100 ≤ preempting.now + 100 ∧ preempting.now + 99 < 10100 ∧
      (preempting.bank .i0).state = .held ∧ (preempting.bank .i0).holder = some (.scheduled ⟨.c1, 7, 0, .post⟩)) ∧
    ((sent .c1 [.cut .i0 (.scheduled mainId)] (drivingIn .hold)).lane .c1).outbox = [.cut .i0 (.scheduled mainId)] := by decide

theorem witness_PeakEndsTheBoostPhase :
    ((drivingIn .boost).slot .i0).phase = .boost ∧ ((drivingIn .boost).slot .i0).drive = some mainDrive ∧
    (drivingIn .boost).now + 59 - ((drivingIn .boost).slot .i0).start < mainDrive.profile.minPeak ∧
    ¬(drivingIn .boost).now + 60 - ((drivingIn .boost).slot .i0).start < mainDrive.profile.minPeak := by decide

theorem witness_HoldPhaseFollowsTheComparators :
    (((drivingIn .hold).slot .i0).phase = .hold ∧ ((drivingIn .hold).slot .i0).drive = some mainDrive) ∧
    ((drivingIn .boost).slot .i0).phase ≠ .hold ∧ ((drivingIn .release).slot .i0).phase = .release ∧ (turning.slot .i0).phase = .off := by
  decide

/-- Each of the five ends of a drive. -/
theorem witness_DriveEndsWithItsCause :
    EndsDrive 1200 .i0 quiet (drivingIn .hold) mainDrive (.durationExpiry 1200 .i0 quiet) .time ∧
    EndsDrive 0 .i0 quiet { drivingIn .boost with mail := turning.mail.set .i0 ⟨[], [], [.scheduled mainId]⟩ } mainDrive
      (.driverCut 0 .i0 quiet) .cut ∧
    EndsDrive 400 .i0 quiet (drivingIn .boost) mainDrive (.peakLimitExpiry 400 .i0 quiet) (.fault .openPeak) ∧
    EndsDrive 50 .i0 quiet (drivingIn .hold) mainDrive (.holdLossExpiry 50 .i0 quiet) (.fault .holdLoss) ∧
    EndsDrive 10 .i0 { quiet with tr := true } (drivingIn .hold) mainDrive (.trip 10 .i0 { quiet with tr := true })
      (.fault .overcurrent) :=
  ⟨.inl ⟨rfl, rfl, .inr rfl, 11200, rfl, by decide⟩, .inr (.inl ⟨rfl, rfl, .inl rfl, rfl⟩),
    .inr (.inr (.inl ⟨rfl, rfl, rfl, 10400, rfl, by decide⟩)), .inr (.inr (.inr (.inl ⟨rfl, rfl, rfl, 10050, rfl, by decide⟩))),
    .inr (.inr (.inr (.inr ⟨rfl, rfl, .inr rfl, rfl⟩)))⟩

theorem witness_ReleaseCompletesTheDrive :
    (lastOfRun.slot .i0).phase = .release ∧ (lastOfRun.slot .i0).drive = some mainDrive ∧
    (lastOfRun.slot .i0).releaseTimer = some 10200 ∧ 10200 ≤ lastOfRun.now + 200 ∧
    ((lastOfRun.faultsOf .c1).isolated = false ∧ lastOfRun.plan.limits.val.isolation ≤ (lastOfRun.faultsOf .c1).count + 1) ∧
    ¬(drivingIn .release).plan.limits.val.isolation ≤ ((drivingIn .release).faultsOf .c1).count + 1 := by decide

theorem witness_TransactionBeginFixesTheFrame :
    (rest.port .a).txn = .idle ∧ ((exchanging rest).port .a).txn = .active 0 false := by decide

set_option maxRecDepth 20000 in
theorem witness_CompletedFrameIsJudged :
    ((exchanging rest).port .a).txn = .active 0 false ∧
    goodFrame (frame 0x11#8 [(4, 1), (2, 2)]) = true ∧ goodFrame (frame 0x11#8 [(4, 1), (2, 2)] ^^^ 1) = false ∧
    goodFrame (frame 0x00#8 []) = true ∧ frame 0x00#8 [] = 0x00#8 ++ (frame 0x00#8 []).setWidth 88 ∧
    goodFrame (frame 0x21#8 []) = true ∧ frame 0x21#8 [] = 0x21#8 ++ (frame 0x21#8 []).setWidth 88 ∧
    ((holding 15 rest).port .a).commands.length < 16 ∧ 16 ≤ ((holding 16 rest).port .a).commands.length := by decide

theorem witness_ShortTransactionLosesNoReply :
    let r : Reply := ⟨0x28#8, 5, .ok, 0⟩
    let s := { exchanging rest with ports := rest.ports.set .a { rest.ports.a with replies := [r], txn := .active 0 true } }
    (s.port .a).txn = .active 0 true ∧ (s.port .a).replies = [r] := by decide

theorem witness_PortSetupAndFlagRequests :
    (let r := req 0x20#8 [(5, 16), (4, 15)]
     (asked rest r).NextIs .a r [] ∧ r.code = 0x20#8 ∧ field r.params 0 5 = 16 ∧ field r.params 5 4 = 15) ∧
    (let r := req 0x20#8 [(5, 17), (4, 0)]
     (asked rest r).NextIs .a r [] ∧ r.code = 0x20#8 ∧ ¬(2 ≤ field r.params 0 5 ∧ field r.params 0 5 ≤ 16)) ∧
    (let r := req 0x20#8 [(5, 2), (4, 2)]
     (asked rest r).NextIs .a r [] ∧ r.code = 0x20#8 ∧ field r.params 0 5 = 2 ∧ field r.params 5 4 = 2) ∧
    (∀ code, (asked rest (req code [])).NextIs .a (req code []) [] ∧ (req code []).code = code) ∧
    0x7F#8 ∉ [0x00#8, 0x01#8, 0x02#8, 0x03#8, 0x04#8, 0x05#8, 0x06#8, 0x07#8, 0x08#8, 0x09#8, 0x0A#8, 0x10#8, 0x11#8,
      0x12#8, 0x13#8, 0x14#8, 0x18#8, 0x19#8, 0x1C#8, 0x1D#8, 0x20#8, 0x21#8, 0x28#8, 0x29#8, 0x2A#8, 0x2B#8, 0x2C#8] :=
  ⟨⟨next_rest _, rfl, by decide, by decide⟩, ⟨next_rest _, rfl, by decide⟩, ⟨next_rest _, rfl, by decide, by decide⟩,
    fun _ => ⟨next_rest _, rfl⟩, by decide⟩

/-- The cursor at the last index of the last cylinder of the plan wraps to cylinder 1, and before it moves to the next. -/
theorem witness_CursorAndReadRequests :
    (∀ code fields, (asked rest (req code fields)).NextIs .a (req code fields) [] ∧ (req code fields).code = code) ∧
    field (req 0x2A#8 [(3, 7)]).params 0 3 = 7 ∧
    (field (req 0x2A#8 [(3, 0), (4, 0)]).params 0 3 ≠ 7 ∧ ∀ c : Cyl, field (req 0x2A#8 [(3, 0), (4, 0)]).params 3 4 ≠ c.num) ∧
    (field (req 0x2A#8 [(3, 4), (4, 8)]).params 0 3 = viewCode .armed ∧ field (req 0x2A#8 [(3, 4), (4, 8)]).params 3 4 = Cyl.num .c8) ∧
    (let k : Cursor := ⟨.stage, .c6, 3, true⟩
     let r := req 0x2B#8 []
     let s := asked (looking k rest) r
     s.NextIs .a r [] ∧ r.code = 0x2B#8 ∧ (s.port .a).cursor = k ∧ k.step = true ∧ viewEntries k.view - 1 ≤ k.index ∧
      s.plan.engine.isSet = true ∧
      Cyl.num .c1 = (if k.cyl.num + 1 ≤ min s.plan.engine.val.count 8 then k.cyl.num + 1 else 1)) ∧
    (let k : Cursor := ⟨.stage, .c6, 2, true⟩
     let r := req 0x2B#8 []
     let s := asked (looking k rest) r
     s.NextIs .a r [] ∧ (s.port .a).cursor = k ∧ k.step = true ∧ k.index < viewEntries k.view - 1) ∧
    ((rest.port .a).cursor.step = false) ∧
    field (req 0x2C#8 [(1, 1)]).params 0 1 = 1 ∧ field (req 0x2C#8 [(1, 0)]).params 0 1 = 0 ∧ PhaseKnown turning.tracker ∧
    Synced turning.tracker := by
  refine ⟨fun _ _ => ⟨next_rest _, rfl⟩, by decide, ⟨by decide, ?_⟩, by decide, ⟨nextIs_asked _ (by decide) rfl, rfl, rfl, rfl, by decide,
    rfl, by decide⟩, ⟨nextIs_asked _ (by decide) rfl, rfl, rfl, by decide⟩, rfl, by decide, by decide, .inl rfl, .inr (.inl rfl)⟩
  intro c; cases c <;> decide

theorem witness_EntriesShowTheTables :
    ((stagedA.tables.staged .a .c1).get .i0 = some ⟨.pilot, .i0, -240, 300⟩ ∧ (stagedA.tables.staged .a .c1).get .i1 = none) ∧
    ((merged.tables.contribution .b .c1).state ≠ .absent ∧ (merged.tables.contribution .b .c2).state = .absent) ∧
    (merged.tables.active.get .c1).entries[0]? = some ⟨⟨.pilot, .i0, -560, 250⟩, .a, .i0⟩ ∧
    (merged.tables.active.get .c1).entries.length = 6 ∧
    (((beforePilot .pending).lane .c1).current = some (record [pulseAt .pilot (-10) 300 .a .i0 .pending]) ∧
      (rest.lane .c1).last = none) := by decide

/-- All eight tests pass on cylinder 6, whose bank is 1; the refusals of `test_servicePulse_refusals` meet the first clause. -/
theorem witness_ServicePulseStartsOneDrive :
    let r := req 0x1C#8 [(4, 6), (15, 20000), (2, 0)]
    let s := asked rest r
    s.NextIs .a r [] ∧ r.code = 0x1C#8 ∧ s.plan.count ≤ 8 ∧ Four.num .i0 = field r.params 19 2 ∧ field r.params 0 4 = 6 ∧
    field r.params 4 15 = 20000 ∧ s.service.inProgress = none ∧ s.plan.closed = true ∧ s.plan.count = 6 ∧
    (s.plan.profile.get .i0).isSet = true ∧ (s.plan.profile.get .i1).isSet = false ∧ s.tracker.sync = .stopped ∧
    (∀ c, NoOpenRecord (s.lane c)) ∧ ∀ b, BankAtRest s b :=
  ⟨next_rest _, rfl, by decide, by decide, by decide, by decide, rfl, rfl, rfl, rfl, rfl, rfl, rest_noOpenRecord, rest_banksAtRest⟩

theorem witness_ServicePulseEndsWithItsOutcome :
    let ended := reported [.driveEnd (.service .c3) .time false 0 2000] (serving .driving none)
    let freed := reported [.release (.service .c3) none 2090] (serving .releasing (some ⟨.time, 2000⟩))
    ((ended.mailOf .i0).toCycle = [.driveEnd (.service .c3) .time false 0 2000] ∧
      ended.service.inProgress = some ⟨.driving, .b, .c3, .i0, 2000, none⟩) ∧
    ((freed.mailOf .i0).toCycle = [.release (.service .c3) none 2090] ∧ (freed.lane .c3).injector = .releasing ∧
      freed.service.inProgress = some ⟨.releasing, .b, .c3, .i0, 2000, some ⟨.time, 2000⟩⟩) := by decide

/-! The laws hold in states in which the part is at work, with a command waiting. -/

theorem witness_EveryStepKeepsPlanLaw : PlanLaw refPlan ∧ OpenLaw open_ := by
  refine ⟨⟨by decide, ?_, by decide, ?_, ?_, ?_, by decide, fun _ => open_passes, fun h => nomatch h⟩,
    fun _ => ⟨rest_nothingArmed, rfl, rest_banksAtRest, ?_, ?_⟩⟩
  on_goal 6 => intro p c; cases p <;> cases c <;> decide
  all_goals intro c; cases c <;> decide

theorem witness_EveryStepKeepsTrackerLaw : TrackerLaw turningTracker := by
  refine ⟨by decide, by decide, by decide, fun _ => ⟨by decide, rfl⟩, fun _ w h => ?_⟩
  cases h
  decide

theorem witness_EveryStepKeepsMergeLaw : MergeLaw merged := by
  refine ⟨?_, fun h => nomatch h⟩
  intro c; cases c <;> decide

theorem witness_EveryStepKeepsLaneLaw : ∀ c, LaneLaw ((beforePilot .pending).lane c) := by
  intro c
  cases c <;> refine ⟨fun r h => ?_, fun r h => ?_⟩ <;> cases h
  exact ⟨_, List.mem_singleton.2 rfl, rfl⟩

theorem witness_EveryStepKeepsBankLaw : ∀ b, BankLaw (preempting.bank b) := by
  intro b
  cases b <;> refine ⟨by decide, by decide, fun e h => (nomatch h), ?_⟩ <;> unfold QueueOrdered <;> decide

theorem witness_EveryStepKeepsDriverLaw : DriverLaw (drivingIn .boost) := by
  refine ⟨?_, ?_, ?_⟩
  · intro b; cases b <;> exact ⟨rfl, rfl⟩
  · intro b; cases b <;> unfold SlotLaw <;> decide
  · intro c h
    cases c <;> first
      | exact ⟨.i0, mainDrive, .inl rfl, rfl, rfl⟩
      | exact nomatch h

theorem witness_EveryStepKeepsPortLaw : ∀ p, PortLaw (flagged.port p) := by
  intro p
  cases p <;> unfold PortLaw <;> decide
end Sys2Proof.Tests
end

section
/-! SUPPORT. What an arming notice does to the ages of the contributions (R55): rules for reading a contribution back after a
write, the age after each operation on a contribution, and the statement itself. -/

namespace Sys2Proof.Machine

/-! ## Reading a contribution after a write to the tables -/

theorem Tables.contribution_setContribution (t : Tables) (p q : Port) (c d : Cyl) (k : Contribution) :
    (t.setContribution p c k).contribution q d = if q = p ∧ d = c then k else t.contribution q d := by
  by_cases hq : q = p
  · subst hq
    simp [Tables.setContribution, Tables.contribution, PerCyl.get_set]
  · simp [Tables.setContribution, Tables.contribution, PerPort.get_set_ne _ hq, hq]

@[simp] theorem Tables.contribution_setActive (t : Tables) (c : Cyl) (l : ActiveList) (p : Port) (d : Cyl) :
    (t.setActive c l).contribution p d = t.contribution p d := rfl

/-! ## The age after each operation on a contribution -/

@[simp] theorem Contribution.withVerdicts_age (k : Contribution) (vs : List (Merged × Verdict)) (p : Port) :
    (k.withVerdicts vs p).age = k.age := by
  unfold Contribution.withVerdicts
  split <;> rfl

@[simp] theorem Contribution.expire_age (k : Contribution) (limit : Nat) : (k.expire limit).age = k.age := by
  unfold Contribution.expire
  split <;> rfl

theorem Contribution.aged_age (k : Contribution) :
    k.aged.age = if k.state = .live then min (k.age + 1) 255 else k.age := by
  unfold Contribution.aged
  split <;> rfl

/-! ## A recomputation moves no age (R62, R72) -/

theorem Tables.recompute_age (t : Tables) (pl : Plan) (c : Cyl) (p : Port) (d : Cyl) :
    ((t.recompute pl c).contribution p d).age = (t.contribution p d).age := by
  simp only [Tables.recompute, Tables.contribution_setActive, Tables.contribution_setContribution]
  split
  · next h => obtain ⟨rfl, rfl⟩ := h; exact Contribution.withVerdicts_age ..
  · split
    · next h => obtain ⟨rfl, rfl⟩ := h; exact Contribution.withVerdicts_age ..
    · rfl

theorem State.recompute_age (s : State) (c : Cyl) (p : Port) (d : Cyl) :
    ((s.recompute c).tables.contribution p d).age = (s.tables.contribution p d).age := by
  simp [State.recompute, Tables.recompute_age]

/-! ## Steps 2 and 3 of an arming notice (R55, R56) -/

/-- Both ports' contributions for `c` age and expire, each from its own value before. -/
theorem Tables.ageAndExpire_both (t : Tables) (pl : Plan) (c : Cyl) (p : Port) (d : Cyl) :
    ((t.ageAndExpire pl .a c).ageAndExpire pl .b c).contribution p d =
      if d = c then (t.contribution p d).aged.expire (pl.limits.val.freshness.get p) else t.contribution p d := by
  by_cases hd : d = c
  · subst hd
    cases p <;> simp [Tables.ageAndExpire, Tables.contribution_setContribution]
  · simp [Tables.ageAndExpire, Tables.contribution_setContribution, hd]

theorem State.stepAges_age (s : State) (c : Cyl) (p : Port) (d : Cyl) :
    ((s.stepAges c).tables.contribution p d).age =
      if d = c ∧ (s.tables.contribution p d).state = .live then min ((s.tables.contribution p d).age + 1) 255
      else (s.tables.contribution p d).age := by
  have beforeRecompute : ((s.stepAges c).tables.contribution p d).age =
      (((s.tables.ageAndExpire s.plan .a c).ageAndExpire s.plan .b c).contribution p d).age := by
    simp only [State.stepAges]
    split <;> simp [State.recompute_age]
  rw [beforeRecompute, Tables.ageAndExpire_both]
  by_cases hd : d = c
  · simp [hd, Contribution.aged_age]
  · simp [hd]

/-! ## The notice taken whole (R54) -/

/-- A notice that has no answer yet is answered from the tables as they stand, and then the ages step. -/
theorem State.takeNotice_of_unanswered {s : State} {c : Cyl} {a : Arming} (armed : (s.lane c).arming = some a)
    (unanswered : a.answer = none) :
    s.takeNotice c =
      (s.setLane c { s.lane c with arming := some { a with answer := some (s.armingAnswer c) } }).stepAges c := by
  simp [State.takeNotice, armed, unanswered]

theorem exec_armingNotice (dt : Nat) (c : Cyl) (s : State) :
    exec (.armingNotice dt c) s = .next ((s.advance dt).takeNotice c) := rfl

/-- Settles O25: the ages step with the notice, and neither the expiry nor the recomputation after it moves an age. -/
theorem armingNoticeStepsLiveAges : Obligations.ArmingNoticeStepsLiveAges := by
  unfold Obligations.ArmingNoticeStepsLiveAges
  intro dt c s a armed unanswered
  refine ⟨_, exec_armingNotice dt c s, fun p d => ?_⟩
  have taken := State.takeNotice_of_unanswered (s := s.advance dt) armed unanswered
  rw [taken, State.stepAges_age, State.setLane_tables, State.advance_tables]

end Sys2Proof.Machine
end

section
/-! SUPPORT. The ranking order of a merge (R65) read as a comparison of four numbers, and the statement itself. A kind is its
class rank, a pulse position its number, and among candidates of one kind the two ports are told apart by which is the tie
port, so the four keys decide every pair of candidates; a lexicographic comparison of numbers is transitive and asymmetric. -/

namespace Sys2Proof.Machine

/-! ## The keys tell candidates apart -/

theorem kindRank_inj {k l : Kind} : kindRank k = kindRank l ↔ k = l := by
  constructor
  · cases k <;> cases l <;> simp [kindRank]
  · rintro rfl
    rfl

theorem fourNum_inj {i j : Four} : i.num = j.num ↔ i = j :=
  ⟨fun same => by rw [← fourOf_num i, same, fourOf_num], congrArg Four.num⟩

/-- The second key of R65: 0 for a candidate from the tie port of its kind, 1 for one from the other port. -/
def Plan.tieKey (pl : Plan) (m : Merged) : Nat := if m.port = pl.tiePort m.pulse.kind then 0 else 1

/-- Of two ports exactly one is the tie port. -/
theorem Plan.eq_tiePort_iff_of_ne {pl : Plan} {p q : Port} (k : Kind) (differ : p ≠ q) :
    p = pl.tiePort k ↔ q ≠ pl.tiePort k := by
  generalize pl.tiePort k = tie
  rcases Port.eq_or_other p q with rfl | rfl
  · exact absurd rfl differ
  · cases p <;> cases tie <;> simp [Port.other]

section
variable {pl : Plan} {x y : Merged}

theorem Plan.tieKey_lt_iff (sameKind : x.pulse.kind = y.pulse.kind) (differ : x.port ≠ y.port) :
    pl.tieKey x < pl.tieKey y ↔ x.port = pl.tiePort x.pulse.kind := by
  have other := Plan.eq_tiePort_iff_of_ne (pl := pl) y.pulse.kind differ
  unfold Plan.tieKey
  rw [sameKind]
  by_cases yTie : y.port = pl.tiePort y.pulse.kind <;> simp [other, yTie]

theorem Plan.tieKey_eq_iff (sameKind : x.pulse.kind = y.pulse.kind) : pl.tieKey x = pl.tieKey y ↔ x.port = y.port := by
  unfold Plan.tieKey
  rw [sameKind]
  by_cases samePort : x.port = y.port
  · simp [samePort]
  · have other := Plan.eq_tiePort_iff_of_ne (pl := pl) y.pulse.kind samePort
    by_cases yTie : y.port = pl.tiePort y.pulse.kind <;> simp [samePort, other, yTie]

/-! ## The ranking is the lexicographic order of the four keys -/

theorem Plan.ranksBefore_iff :
    pl.ranksBefore x y = true ↔
      kindRank y.pulse.kind < kindRank x.pulse.kind ∨ kindRank x.pulse.kind = kindRank y.pulse.kind ∧
        (pl.tieKey x < pl.tieKey y ∨ pl.tieKey x = pl.tieKey y ∧
          (x.pulse.start < y.pulse.start ∨ x.pulse.start = y.pulse.start ∧ x.slot.num < y.slot.num)) := by
  unfold Plan.ranksBefore
  by_cases sameRank : kindRank x.pulse.kind = kindRank y.pulse.kind
  · have sameKind := kindRank_inj.mp sameRank
    have keyEq := Plan.tieKey_eq_iff (pl := pl) sameKind
    by_cases samePort : x.port = y.port
    · have sameKey := keyEq.mpr samePort
      by_cases sameStart : x.pulse.start = y.pulse.start <;> simp [sameRank, samePort, sameKey, sameStart]
    · have differentKey := mt keyEq.mp samePort
      simp [sameRank, samePort, differentKey, Plan.tieKey_lt_iff sameKind samePort]
  · simp [sameRank]

/-- Every pair of candidates differs in some key, so exactly one of the two ranks first. -/
theorem Plan.ranksBefore_iff_not_swap (differ : x.port ≠ y.port ∨ x.slot ≠ y.slot) :
    pl.ranksBefore x y = true ↔ pl.ranksBefore y x = false := by
  have someKeyDiffers : ¬ (kindRank x.pulse.kind = kindRank y.pulse.kind ∧ pl.tieKey x = pl.tieKey y ∧
      x.slot.num = y.slot.num) := by
    rintro ⟨sameRank, sameKey, sameNum⟩
    have samePort := (Plan.tieKey_eq_iff (kindRank_inj.mp sameRank)).mp sameKey
    exact differ.elim (absurd samePort) (absurd (fourNum_inj.mp sameNum))
  rw [← Bool.not_eq_true, Plan.ranksBefore_iff, Plan.ranksBefore_iff]
  omega

theorem Plan.ranksBefore_trans {z : Merged} (xy : pl.ranksBefore x y = true) (yz : pl.ranksBefore y z = true) :
    pl.ranksBefore x z = true := by
  rw [Plan.ranksBefore_iff] at *
  omega

theorem Plan.ranksBefore_iff_tiePort (sameKind : x.pulse.kind = y.pulse.kind) (differ : x.port ≠ y.port) :
    pl.ranksBefore x y = true ↔ x.port = pl.tiePort x.pulse.kind := by
  have differentKey := mt (Plan.tieKey_eq_iff (pl := pl) sameKind).mp differ
  simp [Plan.ranksBefore_iff, sameKind, differentKey, Plan.tieKey_lt_iff sameKind differ]

end

/-- Settles O27: the ranking is the lexicographic order of the four keys, and different candidates differ in a key. -/
theorem rankingIsTotal : Obligations.RankingIsTotal := by
  unfold Obligations.RankingIsTotal
  intro pl x y z
  refine ⟨by decide, ?byRank, Plan.ranksBefore_iff_tiePort, ?byStart, ?bySlot, Plan.ranksBefore_iff_not_swap,
    Plan.ranksBefore_trans⟩
  case byRank => exact fun higher => Plan.ranksBefore_iff.mpr (.inl higher)
  case byStart =>
    intro sameKind samePort earlier
    have sameKey := (Plan.tieKey_eq_iff (pl := pl) sameKind).mpr samePort
    exact Plan.ranksBefore_iff.mpr (.inr ⟨kindRank_inj.mpr sameKind, .inr ⟨sameKey, .inl earlier⟩⟩)
  case bySlot =>
    intro sameKind samePort sameStart lower
    have sameKey := (Plan.tieKey_eq_iff (pl := pl) sameKind).mpr samePort
    exact Plan.ranksBefore_iff.mpr (.inr ⟨kindRank_inj.mpr sameKind, .inr ⟨sameKey, .inr ⟨sameStart, lower⟩⟩⟩)

end Sys2Proof.Machine
end

section
/-! SUPPORT. The two ends of a transaction that CS_N gives (R143, R147), each as an equation for the state of the port in which
it acts: a rise before completion returns the line to idle and writes nothing else, and a fall on an idle line fixes a frame that
carries the head of the reply queue and leaves it queued. The statement composes the two. -/

namespace Sys2Proof.Machine

/-! ## CS_N rises before completion (R147) -/

theorem exec_shortTransaction (dt : Nat) (p : Port) (bits : List Bool) (s : State) :
    exec (.shortTransaction dt p bits) s = .next ((s.advance dt).abandonTransaction p) := rfl

theorem State.abandonTransaction_of_active {s : State} {p : Port} {f : Wire} {queued : Bool}
    (active : (s.port p).txn = .active f queued) :
    s.abandonTransaction p = s.setPort p { s.port p with txn := .idle } := by
  simp [State.abandonTransaction, active]

/-! ## CS_N falls with a reply waiting (R143) -/

theorem exec_transactionBegin (dt : Nat) (p : Port) (s : State) :
    exec (.transactionBegin dt p) s = .next ((s.advance dt).beginTransaction p) := rfl

theorem PortState.nextReply_of_cons {q : PortState} {r : Reply} {rest : List Reply} (waiting : q.replies = r :: rest) :
    q.nextReply = r := by
  simp [PortState.nextReply, waiting]

theorem State.beginTransaction_of_idle {s : State} {p : Port} (idle : (s.port p).txn = .idle) :
    s.beginTransaction p = s.setPort p { s.port p with
      txn := .active (wireOf (s.frameBytes p (s.port p).nextReply)) (!(s.port p).replies.isEmpty) } := by
  simp [State.beginTransaction, idle]

theorem State.beginTransaction_of_waiting {s : State} {p : Port} {r : Reply} {rest : List Reply}
    (idle : (s.port p).txn = .idle) (waiting : (s.port p).replies = r :: rest) :
    s.beginTransaction p = s.setPort p { s.port p with txn := .active (wireOf (s.frameBytes p r)) true } := by
  simp [State.beginTransaction_of_idle idle, PortState.nextReply_of_cons waiting, waiting]

/-- Settles O52: the rise only returns the line to idle, so the queue that the next fall finds is the queue as it was. -/
theorem shortTransactionLosesNoReply : Obligations.ShortTransactionLosesNoReply := by
  unfold Obligations.ShortTransactionLosesNoReply
  intro dt p bits s f queued active t
  have afterRise : t = (s.advance dt).setPort p { s.port p with txn := .idle } := rfl
  refine ⟨?discarded, fun later r rest waiting => ⟨_, exec_transactionBegin later p t, ?sentAgain⟩⟩
  case discarded =>
    have rises := State.abandonTransaction_of_active (s := s.advance dt) active
    rw [exec_shortTransaction, rises, afterRise, State.advance_port]
  case sentAgain =>
    have idle : ((t.advance later).port p).txn = .idle := by simp [afterRise]
    have stillWaiting : ((t.advance later).port p).replies = r :: rest := by simp [afterRise, waiting]
    rw [State.beginTransaction_of_waiting idle stillWaiting, State.port_setPort_self]
    exact ⟨stillWaiting, rfl⟩

end Sys2Proof.Machine
end

section
/-! SUPPORT. Invariants of the part, packaged once: what every command keeps is kept by every step. -/

namespace Sys2Proof.Machine

/-- A step idles or runs one command, so a law that does not look at the queue of commands and that every command keeps is
kept by every step. -/
theorem step_keeps {law : State → Prop} (queue : ∀ s rest, law s → law { s with pending := rest })
    (command : ∀ c s t, law s → exec c s = .next t → law t) {s t : State} (holds : law s) (steps : step s = .next t) :
    law t := by
  unfold step at steps
  split at steps
  · obtain rfl : s = t := Host.Outcome.next.inj steps
    exact holds
  · exact command _ _ _ (queue _ _ holds) steps

/-- A taking of the table engine keeps a law that taking the head, the request's own rule and placing the reply all keep. -/
theorem serve_keeps_law {law : State → Prop} {s t : State} {mine : Byte → Bool} {act : Port → Params → State → Served}
    (takes : s.serve mine act = .next t) (holds : law s) (head : ∀ p r, s.nextRequest = some (p, r) → law (s.takeHead p))
    (rule : ∀ p ps u, law u → law (act p ps u).state) (reply : ∀ u p r, law u → law (u.answer p r)) : law t := by
  obtain rfl | ⟨p, r, next, -, rfl⟩ := serve_cases takes
  · exact holds
  · exact reply _ _ _ (rule _ _ _ (head p r next))

/-- A law that what is done for one cylinder keeps is kept when it is done for a list of them. -/
theorem foldl_law {law : State → Prop} {act : State → Cyl → State} (each : ∀ u c, law u → law (act u c)) {s : State}
    (holds : law s) (cs : List Cyl) : law (cs.foldl act s) := by
  induction cs generalizing s with
  | nil => exact holds
  | cons c cs ih => exact ih (each s c holds)

end Sys2Proof.Machine
end

section
/-! SUPPORT. The tracker's law under every operation of the tracker (R4 to R17), and the statement that every step keeps it. -/

namespace Sys2Proof.Machine

theorem Tracker.push_window_length (t : Tracker) (p : Nat) :
    (t.push p).window.length = min 8 (t.window.length + 1) := by
  simp only [Tracker.push, List.length_take, List.length_cons]

/-- What a tracker that counts periods, in CANDIDATE or with a tooth index, has of its law. -/
structure Tracker.Counting (t : Tracker) : Prop where
  atMost : t.window.length ≤ 8
  atLeast : 4 ≤ t.window.length
  geometry : t.copy.isSome = true
  stall : t.stallOn = true
  last : t.lastTooth.isSome = true
  running : t.sync ≠ .stopped
  index : ∀ w, t.copy = some w → t.tooth ≤ w.teeth - w.missing - 1

namespace Tracker.Counting

variable {t : Tracker}

theorem law (counts : t.Counting) : TrackerLaw t := by
  obtain ⟨atMost, atLeast, geometry, stall, last, running, index⟩ := counts
  exact ⟨atMost, by simp [stall, running], by simp [last, running], fun _ => ⟨atLeast, geometry⟩, fun _ => index⟩

theorem push (counts : t.Counting) (p : Nat) : (t.push p).Counting := by
  obtain ⟨atMost, atLeast, geometry, stall, last, running, index⟩ := counts
  have length := t.push_window_length p
  exact ⟨by omega, by omega, geometry, stall, last, running, index⟩

/-- At tooth 0 every other field but window, geometry, stall timer and last tooth is free. -/
theorem atToothZero (counts : t.Counting) {u : Tracker} (window : u.window = t.window) (geometry : u.copy = t.copy)
    (stall : u.stallOn = t.stallOn) (last : u.lastTooth = t.lastTooth) (running : u.sync ≠ .stopped) (tooth : u.tooth = 0) :
    u.Counting :=
  ⟨window ▸ counts.atMost, window ▸ counts.atLeast, geometry ▸ counts.geometry, stall ▸ counts.stall, last ▸ counts.last,
    running, fun _ _ => tooth ▸ Nat.zero_le _⟩

theorem countCycle (counts : t.Counting) : t.countCycle.Counting := by
  unfold Tracker.countCycle
  split
  · exact { counts with }
  · exact counts

theorem flip (counts : t.Counting) : t.flip.Counting := counts.atToothZero rfl rfl rfl rfl counts.running rfl

theorem checkPhase (counts : t.Counting) (cam : Bool) : (t.checkPhase cam).Counting := by
  unfold Tracker.checkPhase
  split
  · split
    · exact { counts with running := by simp }
    · exact { counts with }
  · exact { counts with }

theorem learnPhase (counts : t.Counting) (cam : Bool) : (t.learnPhase cam).Counting := by
  unfold Tracker.learnPhase
  split
  · split
    · exact { counts with }
    · exact { counts with running := by simp [Tracker.gainPhase] }
  · exact { counts with }

theorem becomeSeeking_law (counts : t.Counting) : TrackerLaw t.becomeSeeking := by
  obtain ⟨atMost, -, -, stall, last, -, -⟩ := counts
  exact ⟨atMost, by simp [Tracker.becomeSeeking, stall], by simp [Tracker.becomeSeeking, last],
    by simp [Tracker.becomeSeeking, Synced], by simp [Tracker.becomeSeeking, Synced]⟩

theorem becomeCandidate (counts : t.Counting) (cam : Bool) : (t.becomeCandidate cam).Counting :=
  { counts with running := by simp [Tracker.becomeCandidate] }

theorem gapWhereDue (counts : t.Counting) (cam : Bool) : (t.gapWhereDue cam).Counting := by
  unfold Tracker.gapWhereDue
  split
  · exact (counts.flip.checkPhase cam).countCycle
  · split
    · refine countCycle (checkPhase ?_ cam)
      exact counts.atToothZero rfl rfl rfl rfl (by simp) rfl
    · refine learnPhase ?_ cam
      exact counts.atToothZero rfl rfl rfl rfl (by simp) rfl
  · refine learnPhase ?_ cam
    exact counts.atToothZero rfl rfl rfl rfl counts.running rfl
  all_goals exact counts

theorem missedGap_law (counts : t.Counting) (p : Nat) : TrackerLaw (t.missedGap p) := by
  have pushed := counts.push p
  unfold Tracker.missedGap
  generalize (if t.sync = .coasting then t.missedGaps + 1 else 1) = missed
  dsimp only
  split
  · exact becomeSeeking_law (pushed.atToothZero rfl rfl rfl rfl counts.running rfl)
  · split
    · exact law (countCycle (pushed.atToothZero rfl rfl rfl rfl (by simp) rfl))
    · exact law (pushed.atToothZero rfl rfl rfl rfl (by simp) rfl)

theorem nextTooth (counts : t.Counting) (notDue : t.gapDue = false) (p : Nat) :
    ({ t.push p with tooth := t.tooth + 1 } : Tracker).Counting := by
  refine { counts.push p with index := fun w copy => ?_ }
  have within := counts.index w copy
  have other : t.tooth ≠ w.teeth - w.missing - 1 := by
    intro due
    rw [(t.gapDue_iff).mpr ⟨w, copy, due⟩] at notDue
    exact Bool.noConfusion notDue
  dsimp only
  omega

theorem syncTooth_law (counts : t.Counting) (gap : Bool) (p : Nat) (cam : Bool) : TrackerLaw (t.syncTooth gap p cam) := by
  unfold Tracker.syncTooth
  split
  · split
    · exact (counts.gapWhereDue cam).law
    · exact (counts.becomeCandidate cam).law
  · split
    · exact counts.missedGap_law p
    · next notDue => exact (counts.nextTooth (Bool.eq_false_iff.mpr notDue) p).law

end Tracker.Counting

namespace TrackerLaw

variable {t : Tracker}

theorem counting_of_synced (law : TrackerLaw t) (synced : Synced t) : t.Counting := by
  obtain ⟨atMost, stall, last, counts, index⟩ := law
  have running : t.sync ≠ .stopped := by rcases synced with e | e | e <;> simp [e]
  exact ⟨atMost, (counts (.inr synced)).1, (counts (.inr synced)).2, stall.mpr running, last.mpr running, running,
    index synced⟩

/-- A gap-like period is one of a window of four and under a working copy (R5). -/
theorem becomeCandidate (law : TrackerLaw t) (running : t.sync ≠ .stopped) {p : Nat} (gap : t.gapLike p = true) (cam : Bool) :
    TrackerLaw (t.becomeCandidate cam) := by
  obtain ⟨atMost, stall, last, -, -⟩ := law
  obtain ⟨w, copy, four, -⟩ := (t.gapLike_iff p).mp gap
  exact ⟨atMost, by simp [Tracker.becomeCandidate, stall.mpr running], by simp [Tracker.becomeCandidate, last.mpr running],
    fun _ => ⟨four, by simp [Tracker.becomeCandidate, copy]⟩, by simp [Tracker.becomeCandidate, Synced]⟩

theorem push (law : TrackerLaw t) (p : Nat) : TrackerLaw (t.push p) := by
  obtain ⟨atMost, stall, last, counts, index⟩ := law
  have length := t.push_window_length p
  refine ⟨by omega, stall, last, fun state => ?_, index⟩
  have ⟨four, copy⟩ := counts state
  exact ⟨by omega, copy⟩

theorem candidateTooth (law : TrackerLaw t) (candidate : t.sync = .candidate) (p : Nat) (cam : Bool) :
    TrackerLaw (t.candidateTooth (t.gapLike p) p cam) := by
  obtain ⟨atMost, stall, last, counts, -⟩ := id law
  have running : t.sync ≠ .stopped := by simp [candidate]
  unfold Tracker.candidateTooth
  dsimp only
  split
  · next gap =>
    split
    · have ⟨four, copy⟩ := counts (.inl candidate)
      have entered : ({ t with sync := .crankSync, tooth := 0 } : Tracker).Counting :=
        ⟨atMost, four, copy, stall.mpr running, last.mpr running, by simp, fun _ _ => Nat.zero_le _⟩
      exact Tracker.Counting.law { entered with }
    · exact law.becomeCandidate running gap cam
  · exact law.push p

theorem afterPeriod (law : TrackerLaw t) (p : Nat) (cam : Bool) : TrackerLaw (t.afterPeriod p cam) := by
  unfold Tracker.afterPeriod
  cases sync : t.sync with
  | stopped => exact law
  | seeking =>
    dsimp only
    split
    · next gap => exact law.becomeCandidate (by simp [sync]) gap cam
    · exact law.push p
  | candidate => exact law.candidateTooth sync p cam
  | crankSync => exact (law.counting_of_synced (.inl sync)).syncTooth_law _ p cam
  | fullSync => exact (law.counting_of_synced (.inr (.inl sync))).syncTooth_law _ p cam
  | coasting => exact (law.counting_of_synced (.inr (.inr sync))).syncTooth_law _ p cam

theorem arrived (law : TrackerLaw t) (running : t.sync ≠ .stopped) (now : Nat) : TrackerLaw (t.arrived now) := by
  obtain ⟨atMost, -, -, counts, index⟩ := law
  exact ⟨atMost, by simp [running], by simp [running], counts, index⟩

/-- A jump of the engine angle writes the marks alone, of which the law says nothing. -/
theorem markJump {u : Tracker} (law : TrackerLaw u) (now : Nat) (owed : Bool) : TrackerLaw (t.markJump u now owed) := by
  rw [t.markJump_frame]
  exact law

theorem onTooth (law : TrackerLaw t) (now : Nat) (cam owed : Bool) : TrackerLaw (t.onTooth now cam owed) := by
  by_cases stopped : t.sync = .stopped
  · rw [Tracker.onTooth_stopped stopped]
    exact ⟨by simp, by simp, by simp, by simp [Synced], by simp [Synced]⟩
  · obtain ⟨-, -, last, -, -⟩ := id law
    obtain ⟨since, held⟩ := Option.isSome_iff_exists.mp (last.mpr stopped)
    rw [Tracker.onTooth_period stopped held]
    exact ((law.arrived stopped now).afterPeriod _ cam).markJump now owed

theorem stop (t : Tracker) : TrackerLaw t.stop :=
  ⟨by simp [Tracker.stop], by simp [Tracker.stop], by simp [Tracker.stop], by simp [Tracker.stop, Synced],
    by simp [Tracker.stop, Synced]⟩

/-- A tracker that holds a tooth index keeps it under a new copy only where the wheel fields are equal (R2). -/
theorem load (law : TrackerLaw t) (w : WorkingCopy) (now : Nat) : TrackerLaw (t.load w now) := by
  obtain ⟨atMost, stall, last, counts, index⟩ := id law
  unfold Tracker.load
  split
  · next same =>
    have copied : TrackerLaw { t with copy := some w } := by
      refine ⟨atMost, stall, last, fun state => ⟨(counts state).1, rfl⟩, fun synced v new => ?_⟩
      obtain rfl : w = v := Option.some.inj new
      obtain ⟨old, copy⟩ := Option.isSome_iff_exists.mp (counts (.inr synced)).2
      have wheel : old.teeth = w.teeth ∧ old.missing = w.missing ∧ old.gapRatio = w.gapRatio ∧ old.cam0 = w.cam0 := by
        simpa [Tracker.sameWheel, copy, WorkingCopy.sameWheel] using same
      have within := index synced old copy
      rw [wheel.1, wheel.2.1] at within
      exact within
    split
    · exact copied
    · exact copied
  · split
    · next rests =>
      have idle : ¬(t.sync = .candidate ∨ Synced t) := by rcases rests with e | e <;> simp [Synced, e]
      exact ⟨atMost, stall, last, fun state => absurd state idle, fun synced => absurd (.inr synced) idle⟩
    · next counting =>
      have running : t.sync ≠ .stopped := fun e => counting (.inl e)
      exact ⟨atMost, by simp [Tracker.becomeSeeking, stall.mpr running], by simp [Tracker.becomeSeeking, last.mpr running],
        by simp [Tracker.becomeSeeking, Synced], by simp [Tracker.becomeSeeking, Synced]⟩

end TrackerLaw

/-! ## The commands that write the tracker -/

theorem State.stallIfDue_tracker (s : State) :
    s.stallIfDue.tracker = if s.tracker.stallDue s.now then s.tracker.stop else s.tracker := by
  unfold State.stallIfDue
  split <;> simp

theorem State.stallIfDue_trackerLaw {s : State} (law : TrackerLaw s.tracker) : TrackerLaw s.stallIfDue.tracker := by
  rw [s.stallIfDue_tracker]
  split
  · exact TrackerLaw.stop _
  · exact law

theorem State.closePlan_trackerLaw {s : State} (law : TrackerLaw s.tracker) : TrackerLaw s.closePlan.tracker := by
  refine State.stallIfDue_trackerLaw ?_
  rw [State.trackerBecomes_tracker]
  exact law.load _ _

theorem planClose_trackerLaw {s : State} (p : Port) (ps : Params) (law : TrackerLaw s.tracker) :
    TrackerLaw (planClose p ps s).state.tracker := by
  unfold planClose
  (repeat' split)
  · exact law
  · exact law
  · exact State.closePlan_trackerLaw law

/-- An arming point writes of the tracker only the mark that it has been delivered. -/
theorem State.armPoint_trackerLaw {s : State} (c : Cyl) (law : TrackerLaw s.tracker) : TrackerLaw (s.armPoint c).tracker := by
  have closed : TrackerLaw (s.closeOldCycle c).tracker := by simpa using law
  unfold State.armPoint
  (repeat' split)
  · exact closed
  · exact law
  · exact law

theorem exec_keeps_trackerLaw {c : Instr} {s t : State} (law : TrackerLaw s.tracker) (runs : exec c s = .next t) :
    TrackerLaw t.tracker := by
  cases writes : writesTracker c with
  | false => rw [exec_tracker runs writes]; exact law
  | true =>
    cases c with
    | powerOnReset dt =>
      obtain rfl : (s.advance dt).powerOn = t := Host.Outcome.next.inj runs
      exact TrackerLaw.stop .reset
    | toothArrival dt cam =>
      obtain rfl : (s.advance dt).tooth cam = t := Host.Outcome.next.inj runs
      rw [State.tooth_tracker]
      exact law.onTooth _ cam _
    | stallExpiry dt =>
      obtain rfl : (s.advance dt).stallIfDue = t := Host.Outcome.next.inj runs
      exact State.stallIfDue_trackerLaw law
    | armingPoint dt c =>
      obtain rfl : (s.advance dt).armPoint c = t := Host.Outcome.next.inj runs
      exact State.armPoint_trackerLaw c law
    | planClose dt =>
      rw [exec_planClose_eq] at runs
      exact serve_keeps_law (law := fun u => TrackerLaw u.tracker) runs law (fun _ _ _ => law)
        (fun p ps _ => planClose_trackerLaw p ps) (fun _ _ _ => id)
    | _ => exact Bool.noConfusion writes

/-- Settles O59: only five commands write the tracker, and each operation of theirs keeps the law. -/
theorem everyStepKeepsTrackerLaw : Obligations.EveryStepKeepsTrackerLaw := by
  unfold Obligations.EveryStepKeepsTrackerLaw
  intro s t law steps
  exact step_keeps (law := fun u => TrackerLaw u.tracker) (fun _ _ => id) (fun _ _ _ => exec_keeps_trackerLaw) law steps

end Sys2Proof.Machine
end

section
/-! SUPPORT. The law of both ports (R150, R153, R155, R165, R167). Outside the ports' own commands a step touches a port by
raising flags alone, which keeps the law and the queues; that is shown once for each operation of the other blocks. The ports'
own operations follow one by one. -/

namespace Sys2Proof.Machine

/-! ## Operations that touch a port by its flags alone -/

/-- From `s` to `t` the ports have raised flags and nothing else. -/
def FlagsOnly (s t : State) : Prop := ∃ on, Raised s t on

theorem flagsOnly_of_ports {s t : State} (same : t.ports = s.ports) : FlagsOnly s t := ⟨_, raised_of_ports same⟩

theorem flagsOnly_refl (s : State) : FlagsOnly s s := ⟨_, raised_refl s⟩

theorem FlagsOnly.trans {s t u : State} (first : FlagsOnly s t) (second : FlagsOnly t u) : FlagsOnly s u :=
  ⟨_, first.choose_spec.trans second.choose_spec⟩

theorem FlagsOnly.port {s t : State} (flags : FlagsOnly s t) (p : Port) :
    t.port p = { s.port p with flags := (t.port p).flags, attn := (t.port p).attn } := (flags.choose_spec p).1

theorem FlagsOnly.replies {s t : State} (flags : FlagsOnly s t) (p : Port) : (t.port p).replies = (s.port p).replies := by
  rw [flags.port p]

/-- The law of both ports. -/
abbrev PortsLaw (s : State) : Prop := ∀ p, PortLaw (s.port p)

/-- ATTN_N follows the flags whether or not one has been raised. -/
theorem FlagsOnly.portsLaw {s t : State} (flags : FlagsOnly s t) (law : PortsLaw s) : PortsLaw t := by
  intro p
  obtain ⟨on, raised⟩ := flags
  obtain ⟨frame, bits, raisedAttn, keptAttn⟩ := raised p
  obtain ⟨commands, replies, haltLow, haltHigh, resume, holds, released, attn, cursor⟩ := law p
  have follows : (t.port p).attn = true ↔ (t.port p).flags &&& (s.port p).mask ≠ 0 := by
    by_cases some : ∃ f, on p f = true
    · rw [raisedAttn some, decide_eq_true_iff]
    · have none : ∀ f, on p f = false := fun f => Bool.eq_false_iff.mpr fun h => some ⟨f, h⟩
      have sameFlags : (t.port p).flags = (s.port p).flags := flags_ext fun f => by rw [bits, none, Bool.or_false]
      rw [keptAttn none, sameFlags, attn]
  rw [frame]
  exact ⟨commands, replies, haltLow, haltHigh, resume, holds, released, follows, cursor⟩

section
variable (s : State)

theorem flagsOnly_raise (p : Port) (f : Flag) : FlagsOnly s (s.raise p f) := ⟨_, raised_raise s p f⟩

theorem flagsOnly_raiseBoth (f : Flag) : FlagsOnly s (s.raiseBoth f) := ⟨_, raised_raiseBoth s f⟩

theorem flagsOnly_raiseIf (on : Bool) (p : Port) (f : Flag) : FlagsOnly s (s.raiseIf on p f) := ⟨_, raised_raiseIf s on p f⟩

theorem flagsOnly_raiseBothIf (on : Bool) (f : Flag) : FlagsOnly s (s.raiseBothIf on f) := ⟨_, raised_raiseBothIf s on f⟩

theorem flagsOnly_raiseOrigins (f : Flag) (ps : List ArmedPulse) : FlagsOnly s (s.raiseOrigins f ps) :=
  ⟨_, raised_raiseOrigins s f ps⟩

/-- What each of a list of cylinders does to the ports, all of them do. -/
theorem flagsOnly_foldl {act : State → Cyl → State} (each : ∀ u c, FlagsOnly u (act u c)) (cs : List Cyl) :
    FlagsOnly s (cs.foldl act s) := by
  induction cs generalizing s with
  | nil => exact flagsOnly_refl s
  | cons c cs ih => exact (each s c).trans (ih _)

/-! ### Tracker and plan -/

theorem flagsOnly_trackerBecomes (new : Tracker) : FlagsOnly s (s.trackerBecomes new) := ⟨_, s.trackerBecomes_raised new⟩

theorem flagsOnly_stallIfDue : FlagsOnly s s.stallIfDue := by
  unfold State.stallIfDue
  split
  · exact flagsOnly_trackerBecomes s _
  · exact flagsOnly_refl s

theorem flagsOnly_tooth (cam : Bool) : FlagsOnly s (s.tooth cam) :=
  (((flagsOnly_of_ports rfl).trans (flagsOnly_trackerBecomes { s with camIn := cam } _)).trans
    (flagsOnly_raiseBothIf _ _ _)).trans ((flagsOnly_raiseBothIf _ _ _).trans (flagsOnly_of_ports rfl))

theorem flagsOnly_closePlan : FlagsOnly s s.closePlan :=
  ((flagsOnly_of_ports rfl).trans (flagsOnly_trackerBecomes (s.setPlan { s.plan with closed := true }) _)).trans
    ((flagsOnly_stallIfDue _).trans (flagsOnly_raiseBoth _ _))

theorem flagsOnly_vote (p : Port) : FlagsOnly s (s.vote p) := by
  unfold State.vote
  split
  · exact (flagsOnly_of_ports rfl).trans (flagsOnly_raiseBoth _ _)
  · exact flagsOnly_of_ports rfl

theorem flagsOnly_planClose (p : Port) (ps : Params) : FlagsOnly s (planClose p ps s).state := by
  unfold planClose
  (repeat' split)
  · exact flagsOnly_refl s
  · exact flagsOnly_refl s
  · exact flagsOnly_closePlan s

theorem flagsOnly_planOpen (p : Port) (ps : Params) : FlagsOnly s (planOpen p ps s).state := by
  unfold planOpen
  split
  · exact flagsOnly_refl s
  · exact flagsOnly_vote s p

/-! ### Firing tables -/

theorem flagsOnly_setTables (tables : Tables) : FlagsOnly s (s.setTables tables) := flagsOnly_of_ports rfl

theorem flagsOnly_recompute (c : Cyl) : FlagsOnly s (s.recompute c) :=
  (flagsOnly_setTables s (s.tables.recompute s.plan c)).trans
    ((flagsOnly_raiseIf _ _ _ _).trans (flagsOnly_raiseIf _ _ _ _))

theorem flagsOnly_flagExpiry (on : Bool) (p : Port) : FlagsOnly s (s.flagExpiry on p) :=
  (flagsOnly_raiseIf _ _ _ _).trans (flagsOnly_raiseIf _ _ _ _)

theorem flagsOnly_stepAges (c : Cyl) : FlagsOnly s (s.stepAges c) := by
  have flagged : ∀ tables on on', FlagsOnly s (((s.setTables tables).flagExpiry on .a).flagExpiry on' .b) := fun tables _ _ =>
    ((flagsOnly_setTables s tables).trans (flagsOnly_flagExpiry _ _ _)).trans (flagsOnly_flagExpiry _ _ _)
  unfold State.stepAges
  dsimp only
  split
  · exact (flagged _ _ _).trans (flagsOnly_recompute _ _)
  · exact flagged _ _ _

theorem flagsOnly_takeNotice (c : Cyl) : FlagsOnly s (s.takeNotice c) := by
  unfold State.takeNotice
  (repeat' split)
  · exact (flagsOnly_of_ports rfl).trans (flagsOnly_stepAges _ _)
  all_goals exact flagsOnly_refl s

theorem flagsOnly_publishOne (p : Port) (c : Cyl) : FlagsOnly s (s.publishOne p c) :=
  (flagsOnly_setTables s (s.tables.publish p c)).trans (flagsOnly_recompute _ _)

theorem flagsOnly_withdrawOne (p : Port) (c : Cyl) : FlagsOnly s (s.withdrawOne p c) :=
  (flagsOnly_setTables s (s.tables.withdraw p c)).trans (flagsOnly_recompute _ _)

theorem flagsOnly_publish (p : Port) (ps : Params) : FlagsOnly s (publish p ps s).state := by
  unfold publish onMask
  dsimp only
  (repeat' split)
  · exact flagsOnly_foldl s (fun u c => flagsOnly_publishOne u p c) _
  all_goals exact flagsOnly_refl s

theorem flagsOnly_withdraw (p : Port) (ps : Params) : FlagsOnly s (withdraw p ps s).state := by
  unfold withdraw onMask
  dsimp only
  (repeat' split)
  · exact flagsOnly_foldl s (fun u c => flagsOnly_withdrawOne u p c) _
  all_goals exact flagsOnly_refl s

/-! ### Lanes -/

theorem flagsOnly_dropWaiting (c : Cyl) (reason : DropReason) : FlagsOnly s (s.dropWaiting c reason) :=
  (flagsOnly_of_ports rfl).trans (flagsOnly_raiseOrigins _ _ _)

theorem flagsOnly_losePhase (reason : DropReason) (c : Cyl) : FlagsOnly s (s.losePhase reason c) :=
  (flagsOnly_dropWaiting s c reason).trans
    (flagsOnly_of_ports (t := (s.dropWaiting c reason).setLane c (((s.dropWaiting c reason).lane c).markLoss reason)) rfl)

theorem flagsOnly_cycleTakesSync : FlagsOnly s s.cycleTakesSync := by
  unfold State.cycleTakesSync
  split
  · exact flagsOnly_refl s
  · next n rest _ =>
    have popped : FlagsOnly s { s with syncToCycle := rest } := flagsOnly_of_ports rfl
    dsimp only
    split
    · exact popped.trans (flagsOnly_foldl _ (fun u c => flagsOnly_losePhase u n.dropReason c) _)
    · exact popped

theorem flagsOnly_armPoint (c : Cyl) : FlagsOnly s (s.armPoint c) := by
  have closed : FlagsOnly s (s.closeOldCycle c) :=
    (flagsOnly_of_ports (t := s.setLane c (((s.lane c).cutSuperseded (s.plan.bankOf c) c s.now).overrunCurrent
      (s.plan.bankOf c) c)) rfl).trans ((flagsOnly_raiseOrigins _ _ _).trans (flagsOnly_raiseOrigins _ _ _))
  unfold State.armPoint
  (repeat' split)
  · exact closed.trans (flagsOnly_of_ports rfl)
  all_goals exact flagsOnly_refl s

theorem flagsOnly_takeAnswer (c : Cyl) : FlagsOnly s (s.takeAnswer c) := by
  unfold State.takeAnswer
  (repeat' split)
  · exact (flagsOnly_of_ports rfl).trans (flagsOnly_raiseOrigins (s.placeRecord c _) _ _)
  all_goals exact flagsOnly_of_ports (by simp)

theorem flagsOnly_deadline (c : Cyl) (pos : Nat) : FlagsOnly s (s.deadline c pos) := by
  have dropped : ∀ l q f, FlagsOnly s ((s.setLane c l).raise q f) := fun l q f =>
    (flagsOnly_of_ports (t := s.setLane c l) rfl).trans (flagsOnly_raise _ q f)
  unfold State.deadline
  split
  · split
    · split
      · split
        · exact dropped _ _ _
        · exact flagsOnly_refl s
      all_goals exact flagsOnly_refl s
    · exact flagsOnly_refl s
  · exact flagsOnly_refl s

theorem flagsOnly_takeOffer (b : Bank) : FlagsOnly s (s.takeOffer b) := by
  unfold State.takeOffer
  (repeat' split)
  · exact (flagsOnly_of_ports rfl).trans (flagsOnly_raiseIf (s.setLane _ _) _ _ _)
  · exact (flagsOnly_of_ports rfl).trans (flagsOnly_raise (s.setLane _ _) _ _)
  all_goals exact flagsOnly_refl s

theorem flagsOnly_takeDriveEnd (b : Bank) : FlagsOnly s (s.takeDriveEnd b) := by
  unfold State.takeDriveEnd
  (repeat' split)
  · exact (flagsOnly_of_ports rfl).trans (flagsOnly_raiseOrigins ((s.popCycleReport b).setLane _ _) _ _)
  all_goals exact flagsOnly_refl s

theorem flagsOnly_takeIsolation (b : Bank) : FlagsOnly s (s.takeIsolation b) := by
  unfold State.takeIsolation
  (repeat' split)
  · exact (flagsOnly_of_ports rfl).trans (flagsOnly_dropWaiting (s.popCycleReport b) _ _)
  all_goals exact flagsOnly_refl s

/-! ### Drives -/

theorem flagsOnly_recordFault (b : Bank) (d : Drive) (k : FaultKind) : FlagsOnly s (s.recordFault b d k) := by
  rw [State.recordFault_eq]
  exact (flagsOnly_of_ports rfl).trans (flagsOnly_raiseBoth _ _)

theorem flagsOnly_countDrive (b : Bank) (c : Cyl) (faults : List FaultKind) : FlagsOnly s (s.countDrive b c faults) := by
  by_cases isolates : (s.faultsOf c).isolated = false ∧ s.plan.limits.val.isolation ≤ countAfter faults (s.faultsOf c).count
  · rw [State.countDrive_isolates b isolates]
    exact (flagsOnly_of_ports rfl).trans (flagsOnly_raiseBoth _ _)
  · rw [State.countDrive_counts b isolates]
    exact flagsOnly_of_ports rfl

theorem flagsOnly_completeRelease (b : Bank) (d : Drive) : FlagsOnly s (s.completeRelease b d) := by
  cases holder : d.holder with
  | scheduled id =>
    rw [State.completeRelease_scheduled holder]
    exact (flagsOnly_of_ports rfl).trans (flagsOnly_countDrive (s.releaseOver b d) _ _ _)
  | service c =>
    rw [State.completeRelease_service holder]
    exact flagsOnly_of_ports rfl

theorem flagsOnly_endDrive (b : Bank) (d : Drive) (cause : Cause) : FlagsOnly s (s.endDrive b d cause) := by
  rw [State.endDrive_eq]
  split
  · exact (flagsOnly_of_ports rfl).trans (flagsOnly_completeRelease (s.driveOver b d cause) _ _)
  · exact flagsOnly_of_ports rfl

theorem flagsOnly_faultDrive (b : Bank) (d : Drive) (k : EndFault) : FlagsOnly s (s.faultDrive b d k) :=
  (flagsOnly_recordFault _ _ _ _).trans (flagsOnly_endDrive _ _ _ _)

theorem flagsOnly_peakDrive (b : Bank) (d : Drive) : FlagsOnly s (s.peakDrive b d) := by
  have noted : FlagsOnly s (s.noteEarlyPeak b d) := by
    unfold State.noteEarlyPeak
    split
    · exact (flagsOnly_of_ports rfl).trans (flagsOnly_recordFault (s.setSlot b _) _ _ _)
    · exact flagsOnly_refl s
  exact noted.trans (flagsOnly_of_ports rfl)

theorem flagsOnly_startDrive (b : Bank) (d : Drive) (x : Sense) : FlagsOnly s (s.startDrive b d x) := by
  have begun : FlagsOnly s (((s.setSense b x).setSlot b (startedSlot d s.now)).setLowGate d.cyl true) := flagsOnly_of_ports rfl
  unfold State.startDrive
  (repeat' split)
  · exact begun.trans (flagsOnly_faultDrive _ _ _ _)
  · exact begun.trans (flagsOnly_peakDrive _ _ _)
  · exact begun

theorem flagsOnly_onPeak (b : Bank) (x : Sense) : FlagsOnly s (s.onPeak b x) := by
  unfold State.onPeak
  dsimp only
  split
  · exact (flagsOnly_of_ports rfl).trans (flagsOnly_peakDrive (s.setSense b _) _ _)
  · exact flagsOnly_of_ports rfl

theorem flagsOnly_onHoldLoss (b : Bank) (x : Sense) : FlagsOnly s (s.onHoldLoss b x) := by
  unfold State.onHoldLoss
  (repeat' split)
  · exact (flagsOnly_of_ports rfl).trans (flagsOnly_faultDrive (s.setSense b _) _ _ _)
  all_goals exact flagsOnly_refl s

theorem flagsOnly_onPeakLimit (b : Bank) (x : Sense) : FlagsOnly s (s.onPeakLimit b x) := by
  unfold State.onPeakLimit
  (repeat' split)
  · exact (flagsOnly_of_ports rfl).trans (flagsOnly_faultDrive (s.setSense b _) _ _ _)
  all_goals exact flagsOnly_refl s

theorem flagsOnly_onTrip (b : Bank) (x : Sense) : FlagsOnly s (s.onTrip b x) := by
  have seen : FlagsOnly s (s.setSense b { x with tr := true }) := flagsOnly_of_ports rfl
  unfold State.onTrip
  dsimp only
  split
  · exact seen.trans (flagsOnly_faultDrive _ _ _ _)
  · exact seen.trans (flagsOnly_faultDrive _ _ _ _)
  · exact seen.trans (flagsOnly_recordFault _ _ _ _)
  all_goals exact seen

theorem flagsOnly_onDuration (b : Bank) (x : Sense) : FlagsOnly s (s.onDuration b x) := by
  unfold State.onDuration
  (repeat' split)
  · exact (flagsOnly_of_ports rfl).trans (flagsOnly_endDrive (s.setSense b _) _ _ _)
  all_goals exact flagsOnly_refl s

theorem flagsOnly_onCut (b : Bank) (x : Sense) : FlagsOnly s (s.onCut b x) := by
  have popped : FlagsOnly s (s.popCut b) := flagsOnly_of_ports rfl
  unfold State.onCut
  dsimp only
  (repeat' split)
  · exact (flagsOnly_of_ports rfl).trans (flagsOnly_endDrive ((s.popCut b).setSense b x) _ _ _)
  · exact popped
  · exact popped
  · exact flagsOnly_refl s

theorem flagsOnly_onZero (b : Bank) : FlagsOnly s (s.onZero b) := by
  unfold State.onZero
  dsimp only
  split
  · exact (flagsOnly_of_ports rfl).trans (flagsOnly_completeRelease (s.setSense b _) _ _)
  · exact flagsOnly_of_ports rfl

theorem flagsOnly_onReleaseLimit (b : Bank) : FlagsOnly s (s.onReleaseLimit b) := by
  unfold State.onReleaseLimit
  (repeat' split)
  · next d _ _ =>
    exact ((flagsOnly_recordFault s b d .releaseSlow).trans (flagsOnly_of_ports (by simp))).trans
      (flagsOnly_completeRelease _ _ _)
  all_goals exact flagsOnly_refl s

theorem flagsOnly_takeAccept (c : Cyl) (x : Sense) : FlagsOnly s (s.takeAccept c x) := by
  unfold State.takeAccept
  (repeat' split)
  · dsimp only
    split
    · exact (flagsOnly_of_ports rfl).trans (flagsOnly_startDrive ((s.popOutbox c).setBank _ _) _ _ _)
    · exact flagsOnly_of_ports rfl
  all_goals exact flagsOnly_refl s

/-! ### Service pulses -/

theorem flagsOnly_servicePulse (x : Sense) (p : Port) (ps : Params) : FlagsOnly s (servicePulse x p ps s).state := by
  obtain same | ⟨c, profile, duration, -, -, -, -, started⟩ := servicePulse_state x p ps s
  · rw [same]
    exact flagsOnly_refl s
  · rw [started]
    refine FlagsOnly.trans ?_ (flagsOnly_startDrive _ _ _ _)
    exact flagsOnly_of_ports rfl

theorem flagsOnly_serviceTakesRelease (b : Bank) : FlagsOnly s (s.serviceTakesRelease b) := by
  unfold State.serviceTakesRelease
  dsimp only
  (repeat' split)
  · exact (flagsOnly_of_ports rfl).trans (flagsOnly_raise (((s.popCycleReport b).startDwell _ _).setService _) _ _)
  all_goals exact flagsOnly_of_ports rfl

end

/-! ## The ports' own operations -/

theorem PortLaw.withTransaction {q : PortState} (law : PortLaw q) (txn : Transaction) : PortLaw { q with txn := txn } := law

theorem PortLaw.finishSending {q : PortState} (law : PortLaw q) (queued : Bool) : PortLaw (q.finishSending queued) := by
  obtain ⟨commands, replies, others⟩ := law
  refine ⟨commands, ?_, others⟩
  cases queued
  · exact replies
  · simp only [PortState.finishSending, if_true, List.length_tail]
    omega

/-- HOLD_N is asserted at or above the halt level, so released it leaves the depth below (R150). -/
theorem PortLaw.arrive {q : PortState} (law : PortLaw q) (r : Request) : PortLaw (q.arrive r) := by
  unfold PortState.arrive
  split
  · exact law.withFlags _
  · next room =>
    obtain ⟨commands, replies, haltLow, haltHigh, resume, holds, released, others⟩ := law
    have length : (q.commands ++ [r]).length = q.commands.length + 1 := by simp
    unfold PortState.holdAfterAppend
    dsimp only
    split
    · exact ⟨by dsimp only; omega, replies, haltLow, haltHigh, resume, fun _ => by dsimp only; omega,
        fun h => Bool.noConfusion h, others⟩
    · exact ⟨by dsimp only; omega, replies, haltLow, haltHigh, resume, fun h => by have := holds h; dsimp only; omega,
        fun _ => by dsimp only; omega, others⟩

theorem portLaw_portReset (q : PortState) (tag : BitVec 4) : PortLaw (q.reset_ tag) := by
  refine ⟨?_, ?_, ?_, ?_, ?_, ?_, ?_, ?_, ?_⟩ <;> simp [PortState.reset_, Cursor.reset, viewEntries]

/-- HOLD_N is released at or below the resume level, which lies below the halt level (R150). -/
theorem PortLaw.takeHead {q : PortState} (law : PortLaw q) :
    PortLaw ({ q with commands := q.commands.tail } : PortState).holdAfterRemoval := by
  obtain ⟨commands, replies, haltLow, haltHigh, resume, holds, released, others⟩ := law
  have length : q.commands.tail.length = q.commands.length - 1 := by simp
  rw [PortState.holdAfterRemoval_eq]
  refine ⟨by dsimp only; omega, replies, haltLow, haltHigh, resume, fun h => ?_, fun h => ?_, others⟩
  · simpa using (Bool.and_eq_true_iff.mp h).2
  · rcases Bool.and_eq_false_iff.mp h with off | low
    · have := released off
      dsimp only
      omega
    · have := of_decide_eq_false low
      dsimp only at this ⊢
      omega

theorem PortLaw.reply {q : PortState} (law : PortLaw q) (room : q.replies.length < 16) (r : Reply) :
    PortLaw { q with replies := q.replies ++ [r] } := by
  obtain ⟨commands, replies, others⟩ := law
  exact ⟨commands, by simpa using room, others⟩

theorem PortLaw.setup {q : PortState} (law : PortLaw q) {halt resume : Nat} (low : 2 ≤ halt) (high : halt ≤ 16)
    (below : resume < halt) (mask : BitVec 16) : PortLaw (q.setup halt resume mask) := by
  obtain ⟨commands, replies, -, -, -, -, -, -, cursor⟩ := law
  unfold PortState.setup
  refine ⟨commands, replies, low, high, below, ?_, ?_, by simp [attention], cursor⟩
  · dsimp only
    split
    · intro
      omega
    · split
      · nofun
      · intro
        omega
  · dsimp only
    split
    · nofun
    · intro
      omega

theorem viewEntries_pos (v : View) : 0 < viewEntries v := by cases v <;> decide

theorem PortLaw.withCursor {q : PortState} (law : PortLaw q) {k : Cursor} (within : k.index < viewEntries k.view) :
    PortLaw { q with cursor := k } := by
  obtain ⟨commands, replies, haltLow, haltHigh, resume, holds, released, attn, -⟩ := law
  exact ⟨commands, replies, haltLow, haltHigh, resume, holds, released, attn, within⟩

theorem Cursor.moveOn_within (k : Cursor) (wrap : Nat) : (k.moveOn wrap).index < viewEntries (k.moveOn wrap).view := by
  unfold Cursor.moveOn
  split
  · assumption
  · exact viewEntries_pos _

theorem portsLaw_setPort {s : State} (law : PortsLaw s) (p : Port) {q : PortState} (new : PortLaw q) :
    PortsLaw (s.setPort p q) := by
  intro p'
  rw [State.port_setPort]
  split
  · exact new
  · exact law p'

theorem portsLaw_beginTransaction {s : State} (law : PortsLaw s) (p : Port) : PortsLaw (s.beginTransaction p) := by
  unfold State.beginTransaction
  dsimp only
  split
  · exact law
  all_goals exact portsLaw_setPort law p ((law p).withTransaction _)

theorem portsLaw_completeTransaction {s : State} (law : PortsLaw s) (p : Port) (rx : Wire) :
    PortsLaw (s.completeTransaction p rx) := by
  unfold State.completeTransaction
  split
  · next queued _ =>
    have sent := portsLaw_setPort law p ((law p).finishSending queued)
    unfold State.judgeFrame
    (repeat' split)
    · exact sent
    · exact portsLaw_setPort sent p (portLaw_portReset _ _)
    · exact portsLaw_setPort sent p ((sent p).arrive _)
    · exact (flagsOnly_raise _ _ _).portsLaw sent
  all_goals exact law

theorem portsLaw_abandonTransaction {s : State} (law : PortsLaw s) (p : Port) : PortsLaw (s.abandonTransaction p) := by
  unfold State.abandonTransaction
  split
  · exact portsLaw_setPort law p ((law p).withTransaction _)
  all_goals exact law

/-! ## Takings -/

/-- A rule of a request keeps the law of both ports and leaves the replies that wait, so its own reply finds room. -/
def KeepsPorts (act : Port → Params → State → Served) : Prop :=
  ∀ p ps u, PortsLaw u → PortsLaw (act p ps u).state ∧ ∀ q, ((act p ps u).state.port q).replies = (u.port q).replies

theorem keepsPorts_of_flagsOnly {act : Port → Params → State → Served} (flags : ∀ p ps u, FlagsOnly u (act p ps u).state) :
    KeepsPorts act := fun p ps u law => ⟨(flags p ps u).portsLaw law, (flags p ps u).replies⟩

theorem keepsPorts_of_ports {act : Port → Params → State → Served} (same : ∀ p ps u, (act p ps u).state.ports = u.ports) :
    KeepsPorts act := keepsPorts_of_flagsOnly fun p ps u => flagsOnly_of_ports (same p ps u)

theorem keepsPorts_portSetup : KeepsPorts portSetup := by
  intro p ps u law
  unfold portSetup
  dsimp only
  split
  · exact ⟨law, fun _ => rfl⟩
  · next passes =>
    rw [firstFailure_eq_none] at passes
    simp only [List.mem_cons, List.not_mem_nil, or_false, forall_eq_or_imp, forall_eq, decide_eq_true_eq] at passes
    refine ⟨portsLaw_setPort law p ((law p).setup passes.1.1 passes.1.2 passes.2 _), fun q => ?_⟩
    rw [served_state, State.port_setPort]
    split
    · next e => subst e; rfl
    · rfl

theorem keepsPorts_flagsClear : KeepsPorts flagsClear := by
  intro p ps u law
  refine ⟨portsLaw_setPort law p ((law p).withFlags _), fun q => ?_⟩
  unfold flagsClear
  rw [served_state, State.port_setPort]
  split
  · next e => subst e; rfl
  · rfl

theorem replies_setCursor (s : State) (p q : Port) (k : Cursor) :
    ((s.setPort p { s.port p with cursor := k }).port q).replies = (s.port q).replies := by
  rw [State.port_setPort]
  split
  · next e => subst e; rfl
  · rfl

theorem keepsPorts_cursorSet : KeepsPorts cursorSet := by
  intro p ps u law
  unfold cursorSet
  dsimp only
  (repeat' split)
  · exact ⟨law, fun _ => rfl⟩
  · exact ⟨law, fun _ => rfl⟩
  · next within => exact ⟨portsLaw_setPort law p ((law p).withCursor within), fun q => replies_setCursor ..⟩
  · exact ⟨law, fun _ => rfl⟩

theorem keepsPorts_cursorRead : KeepsPorts cursorRead := by
  intro p ps u law
  unfold cursorRead
  dsimp only
  rw [served_state]
  split
  · exact ⟨portsLaw_setPort law p ((law p).withCursor (Cursor.moveOn_within _ _)), fun q => replies_setCursor ..⟩
  · exact ⟨law, fun _ => rfl⟩

theorem State.nextPort_eligible {s : State} {p : Port} (next : s.nextPort = some p) : (s.port p).eligible = true := by
  unfold State.nextPort at next
  split at next
  · next e => exact Option.some.inj next ▸ e
  · split at next
    · next e => exact Option.some.inj next ▸ e
    · cases next

/-- A port taken from has room for the reply (R153). -/
theorem State.nextRequest_room {s : State} {p : Port} {r : Request} (next : s.nextRequest = some (p, r)) :
    (s.port p).replies.length < 16 := by
  obtain ⟨p', chosen, head⟩ := Option.bind_eq_some_iff.mp next
  obtain ⟨r', -, pair⟩ := Option.map_eq_some_iff.mp head
  obtain ⟨rfl, -⟩ := Prod.mk.inj pair
  exact of_decide_eq_true (Bool.and_eq_true_iff.mp (State.nextPort_eligible chosen)).2

theorem serve_keeps_portsLaw {s t : State} {mine : Byte → Bool} {act : Port → Params → State → Served}
    (takes : s.serve mine act = .next t) (law : PortsLaw s) (rule : KeepsPorts act) : PortsLaw t := by
  obtain rfl | ⟨p, r, next, -, rfl⟩ := serve_cases takes
  · exact law
  · have taken : PortsLaw (s.takeHead p) := portsLaw_setPort law p (law p).takeHead
    obtain ⟨after, replies⟩ := rule p r.params _ taken
    refine portsLaw_setPort after p ((after p).reply ?_ _)
    have sameReplies : ((s.takeHead p).port p).replies = (s.port p).replies := by
      simp [State.takeHead, PortState.holdAfterRemoval_eq, State.port, State.setPort]
    rw [replies, sameReplies]
    exact State.nextRequest_room next

theorem portLaw_reset : PortLaw .reset := by simp [PortLaw, PortState.reset, Cursor.reset, viewEntries]

theorem portsLaw_powerOn (s : State) : PortsLaw s.powerOn := fun p => by cases p <;> exact portLaw_reset

theorem exec_keeps_portsLaw {c : Instr} {s t : State} (law : PortsLaw s) (runs : exec c s = .next t) : PortsLaw t := by
  cases c with
  | powerOnReset dt =>
    exact Host.Outcome.next.inj runs ▸ portsLaw_powerOn (s.advance dt)
  | toothArrival dt cam => exact Host.Outcome.next.inj runs ▸ (flagsOnly_tooth (s.advance dt) cam).portsLaw law
  | stallExpiry dt => exact Host.Outcome.next.inj runs ▸ (flagsOnly_stallIfDue (s.advance dt)).portsLaw law
  | armingPoint dt c => exact Host.Outcome.next.inj runs ▸ (flagsOnly_armPoint (s.advance dt) c).portsLaw law
  | armingNotice dt c => exact Host.Outcome.next.inj runs ▸ (flagsOnly_takeNotice (s.advance dt) c).portsLaw law
  | armingAnswer dt c => exact Host.Outcome.next.inj runs ▸ (flagsOnly_takeAnswer (s.advance dt) c).portsLaw law
  | syncChange dt => exact Host.Outcome.next.inj runs ▸ (flagsOnly_cycleTakesSync (s.advance dt)).portsLaw law
  | deadlineExpiry dt c pos => exact Host.Outcome.next.inj runs ▸ (flagsOnly_deadline (s.advance dt) c pos).portsLaw law
  | grantOffer dt b => exact Host.Outcome.next.inj runs ▸ (flagsOnly_takeOffer (s.advance dt) b).portsLaw law
  | cycleDriveEnd dt b => exact Host.Outcome.next.inj runs ▸ (flagsOnly_takeDriveEnd (s.advance dt) b).portsLaw law
  | isolationEvent dt b => exact Host.Outcome.next.inj runs ▸ (flagsOnly_takeIsolation (s.advance dt) b).portsLaw law
  | offerAccept dt c x => exact Host.Outcome.next.inj runs ▸ (flagsOnly_takeAccept (s.advance dt) c x).portsLaw law
  | driverCut dt b x => exact Host.Outcome.next.inj runs ▸ (flagsOnly_onCut (s.advance dt) b x).portsLaw law
  | peak dt b x => exact Host.Outcome.next.inj runs ▸ (flagsOnly_onPeak (s.advance dt) b x).portsLaw law
  | holdLossExpiry dt b x => exact Host.Outcome.next.inj runs ▸ (flagsOnly_onHoldLoss (s.advance dt) b x).portsLaw law
  | peakLimitExpiry dt b x => exact Host.Outcome.next.inj runs ▸ (flagsOnly_onPeakLimit (s.advance dt) b x).portsLaw law
  | trip dt b x => exact Host.Outcome.next.inj runs ▸ (flagsOnly_onTrip (s.advance dt) b x).portsLaw law
  | durationExpiry dt b x => exact Host.Outcome.next.inj runs ▸ (flagsOnly_onDuration (s.advance dt) b x).portsLaw law
  | zero dt b => exact Host.Outcome.next.inj runs ▸ (flagsOnly_onZero (s.advance dt) b).portsLaw law
  | releaseLimitExpiry dt b => exact Host.Outcome.next.inj runs ▸ (flagsOnly_onReleaseLimit (s.advance dt) b).portsLaw law
  | serviceReleaseComplete dt b =>
    exact Host.Outcome.next.inj runs ▸ (flagsOnly_serviceTakesRelease (s.advance dt) b).portsLaw law
  | transactionBegin dt p => exact Host.Outcome.next.inj runs ▸ portsLaw_beginTransaction (s := s.advance dt) law p
  | transactionComplete dt p rx => exact Host.Outcome.next.inj runs ▸ portsLaw_completeTransaction (s := s.advance dt) law p rx
  | noneFrame dt p rest => exact Host.Outcome.next.inj runs ▸ portsLaw_completeTransaction (s := s.advance dt) law p _
  | portReset dt p rest => exact Host.Outcome.next.inj runs ▸ portsLaw_completeTransaction (s := s.advance dt) law p _
  | shortTransaction dt p bits => exact Host.Outcome.next.inj runs ▸ portsLaw_abandonTransaction (s := s.advance dt) law p
  | planSetEngine dt | planSetCylinder dt | planSetTiming dt | planSetKind dt | planSetBank dt | planSetProfile dt
  | planSetLimits dt | planRead dt | stagePulse dt | clearSlot dt | clearStage dt | cutoutSet dt | reinstate dt
  | serviceRead dt | flagsRead dt | angleRead dt | unknownRequest dt =>
    simp only [exec_planSetEngine_eq, exec_planSetCylinder_eq, exec_planSetTiming_eq, exec_planSetKind_eq,
      exec_planSetBank_eq, exec_planSetProfile_eq, exec_planSetLimits_eq, exec_planRead_eq, exec_stagePulse_eq,
      exec_clearSlot_eq, exec_clearStage_eq, exec_cutoutSet_eq, exec_reinstate_eq, exec_serviceRead_eq,
      exec_flagsRead_eq, exec_angleRead_eq, exec_unknownRequest_eq] at runs
    exact serve_keeps_portsLaw runs law (keepsPorts_of_ports (by simp))
  | planClose dt =>
    rw [exec_planClose_eq] at runs
    exact serve_keeps_portsLaw runs law (keepsPorts_of_flagsOnly fun p ps u => flagsOnly_planClose u p ps)
  | planOpen dt =>
    rw [exec_planOpen_eq] at runs
    exact serve_keeps_portsLaw runs law (keepsPorts_of_flagsOnly fun p ps u => flagsOnly_planOpen u p ps)
  | publish dt =>
    rw [exec_publish_eq] at runs
    exact serve_keeps_portsLaw runs law (keepsPorts_of_flagsOnly fun p ps u => flagsOnly_publish u p ps)
  | withdraw dt =>
    rw [exec_withdraw_eq] at runs
    exact serve_keeps_portsLaw runs law (keepsPorts_of_flagsOnly fun p ps u => flagsOnly_withdraw u p ps)
  | servicePulse dt x =>
    rw [exec_servicePulse_eq] at runs
    exact serve_keeps_portsLaw runs law
      (keepsPorts_of_flagsOnly fun p ps u => flagsOnly_servicePulse u x p ps)
  | portSetup dt =>
    rw [exec_portSetup_eq] at runs
    exact serve_keeps_portsLaw runs law keepsPorts_portSetup
  | flagsClear dt =>
    rw [exec_flagsClear_eq] at runs
    exact serve_keeps_portsLaw runs law keepsPorts_flagsClear
  | cursorSet dt =>
    rw [exec_cursorSet_eq] at runs
    exact serve_keeps_portsLaw runs law keepsPorts_cursorSet
  | cursorRead dt =>
    rw [exec_cursorRead_eq] at runs
    exact serve_keeps_portsLaw runs law keepsPorts_cursorRead
  | _ =>
    injection runs with next
    exact (flagsOnly_of_ports (s := s) (by rw [← next]; simp)).portsLaw law

/-- Settles O56: commands of the other blocks raise flags alone, and each of the ports' own operations keeps the law. -/
theorem everyStepKeepsPortLaw : Obligations.EveryStepKeepsPortLaw := by
  unfold Obligations.EveryStepKeepsPortLaw
  intro s t law steps
  exact step_keeps (law := PortsLaw) (fun _ _ => id) (fun _ _ _ => exec_keeps_portsLaw) law steps

end Sys2Proof.Machine
end

section
/-! SUPPORT. The law of the banks (R102): each of the arbiter's operations keeps it on the record it acts on, and a record is
written by those operations alone. -/

namespace Sys2Proof.Machine

/-! ## The operations on one record -/

/-- What is in the queue without a pulse was in the queue. -/
theorem mem_of_mem_leaveQueue {id : PulseId} {q : List QueueEntry} {e : QueueEntry} (mem : e ∈ leaveQueue id q) : e ∈ q :=
  (List.mem_filter.mp mem).1

/-- The offer that a bank makes is an entry of its queue, be it the old one or the head (R109). -/
theorem offer_mem_queue {q : List QueueEntry} {o : Option QueueEntry} {idle : Prop} [Decidable idle] {e : QueueEntry}
    (old : ∀ e, o = some e → e ∈ q) (offer : (if idle then q.head? else o) = some e) : e ∈ q := by
  split at offer
  · exact List.mem_of_mem_head? offer
  · exact old e offer

section
variable {r : BankRecord} (law : BankLaw r)
include law

theorem BankLaw.preempt_none (unheld : r.state ≠ .held) : r.preempt = none :=
  Option.not_isSome_iff_eq_none.mp fun runs => unheld (law.2.1 runs)

theorem BankLaw.makeOffer : BankLaw r.makeOffer := by
  obtain ⟨holder, preempt, offer, ordered⟩ := law
  rw [BankRecord.makeOffer_eq]
  exact ⟨holder, preempt, fun e new => offer_mem_queue offer new, ordered⟩

theorem BankLaw.join (e : QueueEntry) (now delay : Nat) : BankLaw (r.join e now delay) := by
  obtain ⟨holder, preempt, offer, ordered⟩ := law
  rw [BankRecord.join_eq]
  refine ⟨holder, fun runs => ?_, fun x new => ?_, joinQueue_ordered ordered⟩
  · dsimp only at runs
    split at runs
    · next qualifies =>
      unfold QualifiesAgainst at qualifies
      exact of_decide_eq_true (Bool.and_eq_true_iff.mp qualifies.2).1
    · exact preempt runs
  · exact offer_mem_queue (fun y old => mem_joinQueue.mpr (.inr (offer y old))) new

theorem BankLaw.remove (id : PulseId) : BankLaw (r.remove id) := by
  obtain ⟨holder, preempt, offer, ordered⟩ := law
  rw [BankRecord.remove_eq]
  refine ⟨holder, fun runs => ?_, fun x new => ?_, leaveQueue_ordered ordered⟩
  · refine preempt ?_
    cases timer : r.preempt with
    | none => simp [timer] at runs
    | some _ => rfl
  · refine offer_mem_queue (fun y old => ?_) new
    obtain ⟨was, stays⟩ := Option.filter_eq_some_iff.mp old
    exact List.mem_filter.mpr ⟨offer y was, stays⟩

theorem BankLaw.grant {id : PulseId} (offers : r.offers id = true) (now delay : Nat) : BankLaw (r.grant id now delay) := by
  have idle : r.state = .idle := of_decide_eq_true (Bool.and_eq_true_iff.mp offers).1
  rw [BankRecord.grant_eq r id now delay (law.preempt_none (by simp [idle]))]
  exact ⟨by simp, fun _ => rfl, nofun, leaveQueue_ordered law.2.2.2⟩

theorem BankLaw.refused (id : PulseId) : BankLaw (r.refused id) := by
  obtain ⟨holder, preempt, -, ordered⟩ := law
  rw [BankRecord.refused_eq]
  exact ⟨holder, preempt, fun e new => offer_mem_queue (by simp) new, leaveQueue_ordered ordered⟩

theorem BankLaw.driveEnded : BankLaw r.driveEnded := by
  obtain ⟨holder, preempt, offer, ordered⟩ := law
  unfold BankRecord.driveEnded
  split
  · next held => exact ⟨by simpa [held] using holder, by simp, offer, ordered⟩
  · exact ⟨holder, preempt, offer, ordered⟩

/-- A bank may come to a state in which it has neither holder nor preempt timer. -/
theorem BankLaw.freed (unheld : r.state ≠ .held) {state : BankState} (free : state = .idle ∨ state = .recovering)
    (recharge : Recharge) : BankLaw { r with state := state, holder := none, recharge := recharge } := by
  have stopped : r.preempt = none := law.preempt_none unheld
  obtain ⟨-, -, offer, ordered⟩ := law
  refine ⟨?_, by simp [stopped], offer, ordered⟩
  obtain rfl | rfl := free <;> simp

theorem BankLaw.released : BankLaw r.released := by
  unfold BankRecord.released
  split
  · next releasing =>
    have freed := fun state free => law.freed (by simp [releasing]) (state := state) free r.recharge
    split
    · exact (freed .idle (.inl rfl)).makeOffer
    · exact freed .recovering (.inr rfl)
  · exact law

theorem BankLaw.recharged (now : Nat) : BankLaw (r.recharged now) := by
  unfold BankRecord.recharged
  split
  · split
    · split
      · next recovering =>
        have unheld : r.holder = none := by simpa [recovering] using law.1
        have freed := law.freed (by simp [recovering]) (state := .idle) (.inl rfl) .done
        rw [← unheld] at freed
        exact freed.makeOffer
      · exact law
    · exact law
  · exact law
  · exact law

/-- A service pulse takes a bank at rest (R120). -/
theorem BankLaw.serve (idle : r.state = .idle) (c : Cyl) : BankLaw (r.serve c) := by
  have stopped : r.preempt = none := law.preempt_none (by simp [idle])
  obtain ⟨-, -, offer, ordered⟩ := law
  exact ⟨by simp [BankRecord.serve], by simp [BankRecord.serve, stopped], offer, ordered⟩

end

/-! ## The operations on the state -/

/-- The law of every bank. -/
abbrev BanksLaw (s : State) : Prop := ∀ b, BankLaw (s.bank b)

theorem bankLaw_reset : BankLaw .reset := by simp [BankLaw, BankRecord.reset, QueueOrdered]

theorem banksLaw_powerOn (s : State) : BanksLaw s.powerOn := fun b => by cases b <;> exact bankLaw_reset

theorem banksLaw_of_banks {s t : State} (law : BanksLaw s) (same : t.banks = s.banks) : BanksLaw t := by
  intro b
  rw [State.bank, same]
  exact law b

/-- One bank is written. -/
theorem banksLaw_written {s t : State} (law : BanksLaw s) {b : Bank} {r : BankRecord} (new : BankLaw r)
    (written : t.banks = s.banks.set b r) : BanksLaw t := by
  intro b'
  rw [State.bank, written, Quad.get_set]
  split
  · exact new
  · exact law b'

theorem banksLaw_setBank {s : State} (law : BanksLaw s) {b : Bank} {r : BankRecord} (new : BankLaw r) :
    BanksLaw (s.setBank b r) := banksLaw_written law new rfl

section
variable {s : State} (law : BanksLaw s)
include law

theorem banksLaw_takeEntry (c : Cyl) : BanksLaw (s.takeEntry c) := by
  unfold State.takeEntry
  (repeat' split)
  · exact law
  · exact banksLaw_setBank (s := s.popOutbox c) law ((law _).join _ _ _)
  all_goals exact law

theorem banksLaw_takeRemoval (c : Cyl) : BanksLaw (s.takeRemoval c) := by
  unfold State.takeRemoval
  split
  · exact banksLaw_setBank (s := s.popOutbox c) law ((law _).remove _)
  all_goals exact law

theorem banksLaw_takeAccept (c : Cyl) (x : Sense) : BanksLaw (s.takeAccept c x) := by
  unfold State.takeAccept
  split
  · next b id profile duration _ =>
    dsimp only
    split
    · next offers =>
      exact banksLaw_written law ((law b).grant offers s.now (s.plan.bankGroup b).preemptDelay) (b := b) (by simp; rfl)
    · exact law
  all_goals exact law

theorem banksLaw_takeRefusal (c : Cyl) : BanksLaw (s.takeRefusal c) := by
  unfold State.takeRefusal
  split
  · exact banksLaw_setBank (s := s.popOutbox c) law ((law _).refused _)
  all_goals exact law

theorem banksLaw_takeBoostEnd (b : Bank) : BanksLaw (s.takeBoostEnd b) := by
  unfold State.takeBoostEnd
  split
  · exact banksLaw_setBank (s := s.popBankReport b) law (law b)
  all_goals exact law

theorem banksLaw_bankTakesDriveEnd (b : Bank) : BanksLaw (s.bankTakesDriveEnd b) := by
  unfold State.bankTakesDriveEnd
  split
  · exact banksLaw_setBank (s := s.popBankReport b) law (law b).driveEnded
  · exact law

theorem banksLaw_bankTakesRelease (b : Bank) : BanksLaw (s.bankTakesRelease b) := by
  unfold State.bankTakesRelease
  split
  · exact banksLaw_setBank (s := s.popBankReport b) law (law b).released
  · exact law

theorem banksLaw_preempt (b : Bank) : BanksLaw (s.preempt b) := by
  have stopped : BanksLaw (s.setBank b { s.bank b with preempt := none }) :=
    banksLaw_setBank law ⟨(law b).1, by simp, (law b).2.2.1, (law b).2.2.2⟩
  unfold State.preempt
  (repeat' split)
  · exact banksLaw_of_banks stopped (by simp)
  · exact stopped
  all_goals exact law

theorem banksLaw_servicePulse (x : Sense) (p : Port) (ps : Params) : BanksLaw (servicePulse x p ps s).state := by
  obtain same | ⟨c, profile, duration, ⟨idle, -⟩, -, -, -, started⟩ := servicePulse_state x p ps s
  · rwa [same]
  · rw [started]
    exact banksLaw_written law ((law _).serve idle c) (b := s.plan.bankOf c) (by simp [State.startService])

end

theorem exec_keeps_banksLaw {c : Instr} {s t : State} (law : BanksLaw s) (runs : exec c s = .next t) : BanksLaw t := by
  by_cases writes : writesBanks c = false
  · exact banksLaw_of_banks law (exec_banks runs writes)
  · cases c with
    | powerOnReset dt =>
      exact Host.Outcome.next.inj runs ▸ banksLaw_powerOn (s.advance dt)
    | queueEntry dt c => exact Host.Outcome.next.inj runs ▸ banksLaw_takeEntry (s := s.advance dt) law c
    | queueRemoval dt c => exact Host.Outcome.next.inj runs ▸ banksLaw_takeRemoval (s := s.advance dt) law c
    | offerAccept dt c x => exact Host.Outcome.next.inj runs ▸ banksLaw_takeAccept (s := s.advance dt) law c x
    | offerRefusal dt c => exact Host.Outcome.next.inj runs ▸ banksLaw_takeRefusal (s := s.advance dt) law c
    | boostEnd dt b => exact Host.Outcome.next.inj runs ▸ banksLaw_takeBoostEnd (s := s.advance dt) law b
    | bankDriveEnd dt b => exact Host.Outcome.next.inj runs ▸ banksLaw_bankTakesDriveEnd (s := s.advance dt) law b
    | bankReleaseComplete dt b => exact Host.Outcome.next.inj runs ▸ banksLaw_bankTakesRelease (s := s.advance dt) law b
    | rechargeExpiry dt b =>
      exact Host.Outcome.next.inj runs ▸ banksLaw_setBank (s := s.advance dt) law ((law b).recharged _)
    | preemptExpiry dt b => exact Host.Outcome.next.inj runs ▸ banksLaw_preempt (s := s.advance dt) law b
    | servicePulse dt x =>
      rw [exec_servicePulse_eq] at runs
      exact serve_keeps_law (law := BanksLaw) runs law (fun _ _ _ => law) (fun p ps _ law => banksLaw_servicePulse law x p ps)
        (fun _ _ _ => id)
    | _ => exact absurd rfl writes

/-- Settles O44: the arbiter's operations keep the law of the bank they act on, and no other command writes a bank. -/
theorem everyStepKeepsBankLaw : Obligations.EveryStepKeepsBankLaw := by
  unfold Obligations.EveryStepKeepsBankLaw
  intro s t law steps
  exact step_keeps (law := BanksLaw) (fun _ _ => id) (fun _ _ _ => exec_keeps_banksLaw) law steps

end Sys2Proof.Machine
end

section
/-! SUPPORT. The law of the drivers (R103 to R105, R123 to R135): each bank stands in step with its slot. An operation acts on one
bank, its slot and the reports between them; what it does there is shown as a move of `InStep`, and the other banks stand. -/

namespace Sys2Proof.Machine

/-! ## Drives of a slot -/

theorem DriveSlot.driving_iff {x : DriveSlot} {d : Drive} :
    x.driving = some d ↔ (x.phase = .boost ∨ x.phase = .hold) ∧ x.drive = some d := by
  unfold DriveSlot.driving
  cases x.phase <;> simp

theorem DriveSlot.inPhase_iff {x : DriveSlot} {ph : Phase} {d : Drive} :
    x.inPhase ph = some d ↔ x.phase = ph ∧ x.drive = some d := by
  unfold DriveSlot.inPhase
  split <;> simp [*]

theorem DriveSlot.driving_of_inPhase {x : DriveSlot} {ph : Phase} {d : Drive} (drives : ph = .boost ∨ ph = .hold)
    (found : x.inPhase ph = some d) : x.driving = some d := by
  obtain ⟨rfl, drive⟩ := DriveSlot.inPhase_iff.mp found
  exact DriveSlot.driving_iff.mpr ⟨drives, drive⟩

/-! ## What reports and phases do to a bank in step with its slot -/

/-- The boost end is taken: the recharge no longer waits (R103). -/
theorem InStep.boostEndTaken {bank : BankState} {phase : Phase} {waiting : Bool} {moment : Nat} {more : List BankReport}
    (inStep : InStep bank phase waiting (.boostEnd moment :: more)) : InStep bank phase false more := by
  cases bank <;> cases phase <;> simp_all [InStep]

/-- The drive end is taken from a HELD bank, which becomes RELEASING (R104). -/
theorem InStep.driveEndTaken {bank : BankState} {phase : Phase} {waiting : Bool} {more : List BankReport}
    (inStep : InStep bank phase waiting (.driveEnd :: more)) : bank = .held ∧ InStep .releasing phase waiting more := by
  cases bank <;> cases phase <;> simp_all [InStep]

/-- The release completion is taken from a RELEASING bank, whose slot is OFF (R105). -/
theorem InStep.releaseTaken {bank : BankState} {phase : Phase} {waiting : Bool} {more : List BankReport}
    (inStep : InStep bank phase waiting (.releaseComplete :: more)) :
    bank = .releasing ∧ phase = .off ∧ waiting = false ∧ more = [] := by
  cases bank <;> cases phase <;> simp_all [InStep]

/-- A bank in RECOVERING has nothing left to take but its recharge (R106). -/
theorem InStep.recovered {phase : Phase} {waiting : Bool} {reports : List BankReport}
    (inStep : InStep .recovering phase waiting reports) : InStep .idle phase false reports := by
  cases phase <;> simp_all [InStep]

/-- The slot of an IDLE bank is OFF and owes no report (R123). -/
theorem InStep.idle {phase : Phase} {waiting : Bool} {reports : List BankReport}
    (inStep : InStep .idle phase waiting reports) : phase = .off ∧ reports = [] := by
  cases phase <;> simp_all [InStep]

/-- A PEAK ends the boost phase with its report (R103, R126). -/
theorem InStep.peaks {bank : BankState} {waiting : Bool} {reports : List BankReport} (moment : Nat)
    (inStep : InStep bank .boost waiting reports) : InStep bank .hold waiting (reports ++ [.boostEnd moment]) := by
  cases bank <;> simp_all [InStep]

/-- A drive end reports a boost end first where none has been reported (R103, R104, R133). -/
theorem InStep.drivesEnd {bank : BankState} {phase : Phase} {waiting : Bool} {reports : List BankReport} (moment : Nat)
    (drives : phase = .boost ∨ phase = .hold) (inStep : InStep bank phase waiting reports) :
    InStep bank .release waiting (reports ++ (if phase = .boost then [.boostEnd moment] else []) ++ [.driveEnd]) := by
  obtain rfl | rfl := drives
  · cases bank <;> simp_all [InStep]
  · cases bank <;> simp_all [InStep]
    obtain ⟨⟨m, rfl⟩, rfl⟩ | ⟨rfl, rfl⟩ := inStep <;> simp

/-- The release completes with its report (R105, R135). -/
theorem InStep.releases {bank : BankState} {waiting : Bool} {reports : List BankReport}
    (inStep : InStep bank .release waiting reports) : InStep bank .off waiting (reports ++ [.releaseComplete]) := by
  cases bank <;> simp_all [InStep]
  obtain ⟨⟨m, rfl⟩, rfl⟩ | ⟨rfl, rfl⟩ := inStep <;> simp

/-! ## Changes of one bank, its slot and its reports -/

/-- Bank `b`, its slot and its reports are in step. -/
abbrev BankInStep (s : State) (b : Bank) : Prop :=
  InStep (s.bank b).state (s.slot b).phase (decide ((s.bank b).recharge = .waiting)) (s.mailOf b).toBank

/-- From `s` to `t` the banks, slots and reports of all banks but `b` stand. -/
structure SameElsewhere (s t : State) (b : Bank) : Prop where
  bank : ∀ b', b' ≠ b → t.bank b' = s.bank b'
  slot : ∀ b', b' ≠ b → t.slot b' = s.slot b'
  mail : ∀ b', b' ≠ b → t.mailOf b' = s.mailOf b'

theorem sameElsewhere_of_set {s t : State} {b : Bank} {r : BankRecord} {x : DriveSlot} {m : SlotMail}
    (banks : t.banks = s.banks.set b r) (slots : t.slots = s.slots.set b x) (mail : t.mail = s.mail.set b m) :
    SameElsewhere s t b where
  bank b' ne := by rw [State.bank, banks, Quad.get_set_ne _ ne, State.bank]
  slot b' ne := by rw [State.slot, slots, Quad.get_set_ne _ ne, State.slot]
  mail b' ne := by rw [State.mailOf, mail, Quad.get_set_ne _ ne, State.mailOf]

/-- A gate that is on after a change at bank `b` is that of the drive of its slot, or was on before for another bank's drive. -/
def GatesFollow (s t : State) (b : Bank) : Prop :=
  ∀ c, t.lowGates.get c = true → (∃ d, (t.slot b).driving = some d ∧ d.cyl = c) ∨
    (s.lowGates.get c = true ∧ ∀ d, (s.slot b).driving = some d → d.cyl ≠ c)

theorem gatesFollow_of_driving {s t : State} {b : Bank} (gates : ∀ c, t.lowGates.get c = true → s.lowGates.get c = true)
    (driving : (t.slot b).driving = (s.slot b).driving) : GatesFollow s t b := by
  intro c on
  by_cases drives : ∃ d, (s.slot b).driving = some d ∧ d.cyl = c
  · exact .inl (driving ▸ drives)
  · exact .inr ⟨gates c on, fun d found same => drives ⟨d, found, same⟩⟩

theorem DriverLaw.gate {s : State} (law : DriverLaw s) {c : Cyl} (on : s.lowGates.get c = true) :
    ∃ b d, (s.slot b).driving = some d ∧ d.cyl = c := by
  obtain ⟨b, d, phase, drive, same⟩ := law.2.2 c on
  exact ⟨b, d, DriveSlot.driving_iff.mpr ⟨phase, drive⟩, same⟩

theorem DriverLaw.changeAt {s t : State} (law : DriverLaw s) {b : Bank} (elsewhere : SameElsewhere s t b)
    (inStep : BankInStep t b) (slot : SlotLaw (t.slot b)) (gates : GatesFollow s t b) : DriverLaw t := by
  refine ⟨fun b' => ?_, fun b' => ?_, fun c on => ?_⟩
  · by_cases same : b' = b
    · exact same ▸ inStep
    · rw [elsewhere.bank b' same, elsewhere.slot b' same, elsewhere.mail b' same]
      exact law.1 b'
  · by_cases same : b' = b
    · exact same ▸ slot
    · rw [elsewhere.slot b' same]
      exact law.2.1 b'
  · have found : ∃ b' d, (t.slot b').driving = some d ∧ d.cyl = c := by
      obtain ⟨d, drives⟩ | ⟨was, other⟩ := gates c on
      · exact ⟨b, d, drives⟩
      · obtain ⟨b', d, driving, same⟩ := law.gate was
        have ne : b' ≠ b := fun e => other d (e ▸ driving) same
        exact ⟨b', d, by rwa [elsewhere.slot b' ne], same⟩
    obtain ⟨b', d, driving, same⟩ := found
    obtain ⟨phase, drive⟩ := DriveSlot.driving_iff.mp driving
    exact ⟨b', d, phase, drive, same⟩

/-- A change of what the law does not look at. -/
theorem DriverLaw.congr {s t : State} (law : DriverLaw s) (banks : t.banks = s.banks) (slots : t.slots = s.slots)
    (reports : ∀ b, (t.mailOf b).toBank = (s.mailOf b).toBank) (gates : t.lowGates = s.lowGates) : DriverLaw t := by
  obtain ⟨inStep, slot, gate⟩ := law
  refine ⟨fun b => ?_, fun b => ?_, fun c on => ?_⟩
  · rw [reports, State.bank, banks, State.slot, slots]
    exact inStep b
  · rw [State.slot, slots]
    exact slot b
  · rw [gates] at on
    simp only [State.slot, slots]
    exact gate c on

/-- A change of the record of one bank. -/
theorem DriverLaw.changeBank {s t : State} (law : DriverLaw s) {b : Bank} {r : BankRecord} {m : SlotMail}
    (banks : t.banks = s.banks.set b r) (slots : t.slots = s.slots) (mail : t.mail = s.mail.set b m)
    (gates : t.lowGates = s.lowGates)
    (inStep : InStep r.state (s.slot b).phase (decide (r.recharge = .waiting)) m.toBank) : DriverLaw t := by
  have slot : t.slot b = s.slot b := by rw [State.slot, slots, State.slot]
  refine law.changeAt (b := b) (sameElsewhere_of_set (x := s.slot b) banks (by simp [slots, State.slot]) mail) ?_ ?_
    (gatesFollow_of_driving (fun c on => gates ▸ on) (by rw [slot]))
  · simp only [BankInStep, State.bank, banks, State.mailOf, mail, Quad.get_set_self, slot]
    exact inStep
  · rw [slot]
    exact law.2.1 b

/-- A change of the record of one bank that leaves its state and whether its recharge waits. -/
theorem DriverLaw.changeRecord {s t : State} (law : DriverLaw s) {b : Bank} {r : BankRecord}
    (banks : t.banks = s.banks.set b r) (slots : t.slots = s.slots) (mail : t.mail = s.mail) (gates : t.lowGates = s.lowGates)
    (state : r.state = (s.bank b).state) (recharge : r.recharge = (s.bank b).recharge) : DriverLaw t :=
  law.changeBank (m := s.mailOf b) banks slots (by simp [mail, State.mailOf]) gates (by rw [state, recharge]; exact law.1 b)

/-- A change of one slot that leaves its bank. -/
theorem DriverLaw.changeSlot {s t : State} (law : DriverLaw s) {b : Bank} {x : DriveSlot} {m : SlotMail}
    (banks : t.banks = s.banks) (slots : t.slots = s.slots.set b x) (mail : t.mail = s.mail.set b m)
    (inStep : InStep (s.bank b).state x.phase (decide ((s.bank b).recharge = .waiting)) m.toBank) (slot : SlotLaw x)
    (gates : GatesFollow s t b) : DriverLaw t := by
  have new : t.slot b = x := by rw [State.slot, slots, Quad.get_set_self]
  refine law.changeAt (b := b) (sameElsewhere_of_set (r := s.bank b) (by simp [banks, State.bank]) slots mail) ?_
    (new ▸ slot) gates
  simp only [BankInStep, State.bank, banks, State.mailOf, mail, Quad.get_set_self, new]
  exact inStep

/-! ## The bank arbiter -/

theorem BankRecord.makeOffer_state (r : BankRecord) : r.makeOffer.state = r.state ∧ r.makeOffer.recharge = r.recharge := by
  rw [BankRecord.makeOffer_eq]
  exact ⟨rfl, rfl⟩

/-- The slot's drive stands through an early PEAK. -/
theorem noteEarlyPeak_driving (u : State) (b : Bank) (d : Drive) :
    ((u.noteEarlyPeak b d).slot b).phase = (u.slot b).phase ∧ ((u.noteEarlyPeak b d).slot b).drive = (u.slot b).drive := by
  unfold State.noteEarlyPeak
  split
  · rw [State.recordFault_eq]
    simp [State.slot, State.setSlot]
  · exact ⟨rfl, rfl⟩

/-- A grant makes the bank HELD, with its recharge WAITING (R110). -/
theorem BankRecord.grant_held (r : BankRecord) (id : PulseId) (now delay : Nat) :
    (r.grant id now delay).state = .held ∧ (r.grant id now delay).recharge = .waiting := by
  unfold BankRecord.grant BankRecord.claim
  dsimp only
  (repeat' split) <;> exact ⟨rfl, rfl⟩

theorem slotLaw_reset : SlotLaw .reset := by simp [SlotLaw, DriveSlot.reset]

theorem driverLaw_powerOn (s : State) : DriverLaw s.powerOn := by
  refine ⟨fun b => ?_, fun b => ?_, fun c on => ?_⟩
  · cases b <;> exact ⟨rfl, rfl⟩
  · cases b <;> exact slotLaw_reset
  · cases c <;> cases on

section
variable {s : State} (law : DriverLaw s)
include law

theorem driverLaw_takeEntry (c : Cyl) : DriverLaw (s.takeEntry c) := by
  unfold State.takeEntry
  split
  · next b e turn _ =>
    split
    · exact law
    · exact law.changeRecord (b := b) rfl rfl rfl rfl (by rw [BankRecord.join_eq]) (by rw [BankRecord.join_eq])
  all_goals exact law

theorem driverLaw_takeRemoval (c : Cyl) : DriverLaw (s.takeRemoval c) := by
  unfold State.takeRemoval
  split
  · next b id _ =>
    exact law.changeRecord (b := b) rfl rfl rfl rfl (by rw [BankRecord.remove_eq]) (by rw [BankRecord.remove_eq])
  all_goals exact law

theorem driverLaw_takeRefusal (c : Cyl) : DriverLaw (s.takeRefusal c) := by
  unfold State.takeRefusal
  split
  · next b id _ =>
    exact law.changeRecord (b := b) rfl rfl rfl rfl (by rw [BankRecord.refused_eq]) (by rw [BankRecord.refused_eq])
  all_goals exact law

theorem driverLaw_cutHolder (b : Bank) (h : Holder) : DriverLaw (s.cutHolder b h) := by
  unfold State.cutHolder
  split
  · refine law.congr rfl rfl (fun b' => ?_) rfl
    rw [State.handCut, State.mailOf_setMail]
    split
    · next same => rw [same]
    · rfl
  · exact law

theorem driverLaw_takeCut (c : Cyl) : DriverLaw (s.takeCut c) := by
  unfold State.takeCut
  split
  · exact driverLaw_cutHolder (s := s.popOutbox c) law _ _
  all_goals exact law

theorem driverLaw_preempt (b : Bank) : DriverLaw (s.preempt b) := by
  have stopped : DriverLaw (s.setBank b { s.bank b with preempt := none }) := law.changeRecord (b := b) rfl rfl rfl rfl rfl rfl
  unfold State.preempt
  (repeat' split)
  · exact driverLaw_cutHolder stopped _ _
  · exact stopped
  all_goals exact law

/-- The report at the head, taken. -/
theorem inStep_of_report {b : Bank} {report : BankReport} (head : s.bankReport b = some report) :
    InStep (s.bank b).state (s.slot b).phase (decide ((s.bank b).recharge = .waiting)) (report :: (s.mailOf b).toBank.tail) := by
  rw [List.cons_head?_tail head]
  exact law.1 b

theorem driverLaw_takeBoostEnd (b : Bank) : DriverLaw (s.takeBoostEnd b) := by
  unfold State.takeBoostEnd
  split
  · next moment head =>
    have taken := (inStep_of_report law head).boostEndTaken
    refine law.changeBank (b := b) rfl rfl rfl rfl ?_
    unfold BankRecord.boostEnded
    split <;> exact taken
  all_goals exact law

theorem driverLaw_bankTakesDriveEnd (b : Bank) : DriverLaw (s.bankTakesDriveEnd b) := by
  unfold State.bankTakesDriveEnd
  split
  · next head =>
    obtain ⟨held, taken⟩ := (inStep_of_report law head).driveEndTaken
    refine law.changeBank (b := b) rfl rfl rfl rfl ?_
    rw [BankRecord.driveEnded, if_pos held]
    exact taken
  · exact law

theorem driverLaw_bankTakesRelease (b : Bank) : DriverLaw (s.bankTakesRelease b) := by
  unfold State.bankTakesRelease
  split
  · next head =>
    obtain ⟨releasing, off, waiting, rest⟩ := (inStep_of_report law head).releaseTaken
    refine law.changeBank (b := b) rfl rfl rfl rfl ?_
    rw [BankRecord.released, if_pos releasing, off]
    dsimp only
    rw [rest]
    split
    · rw [(BankRecord.makeOffer_state _).1, (BankRecord.makeOffer_state _).2, waiting]
      exact ⟨rfl, rfl⟩
    · rw [waiting]
      exact ⟨rfl, rfl⟩
  · exact law

theorem driverLaw_rechargeBank (b : Bank) : DriverLaw (s.rechargeBank b) := by
  have inStep := law.1 b
  refine law.changeBank (b := b) (m := s.mailOf b) rfl rfl (by simp [State.rechargeBank, State.mailOf]) rfl ?_
  unfold BankRecord.recharged
  split
  · next running =>
    rw [running] at inStep
    split
    · split
      · next recovering =>
        rw [(BankRecord.makeOffer_state _).1, (BankRecord.makeOffer_state _).2]
        rw [recovering] at inStep
        exact inStep.recovered
      · exact inStep
    · rw [running]
      exact inStep
  · exact inStep
  · exact inStep

/-! ## The driver sequencer -/

/-- A fault found touches neither phase, drive, gates nor levels of its slot. -/
theorem driverLaw_recordFault (b : Bank) (d : Drive) (k : FaultKind) : DriverLaw (s.recordFault b d k) := by
  rw [State.recordFault_eq]
  refine law.changeSlot (b := b) (x := { s.slot b with faults := addFault k (s.slot b).faults }) (m := s.mailOf b) (by simp)
    (by simp) (by simp [State.mailOf]) (law.1 b) (law.2.1 b) (gatesFollow_of_driving (by simp) ?_)
  simp [State.slot, DriveSlot.driving]

theorem driverLaw_driveOver {b : Bank} {d : Drive} (driving : (s.slot b).driving = some d) (cause : Cause) :
    DriverLaw (s.driveOver b d cause) := by
  obtain ⟨phase, drive⟩ := DriveSlot.driving_iff.mp driving
  refine law.changeSlot (b := b) rfl rfl rfl ((law.1 b).drivesEnd s.now phase) ?_ fun c on => ?_
  · simp [SlotLaw, DriveSlot.endDrive, drive]
  · simp only [State.driveOver, PerCyl.get_set] at on
    split at on
    · cases on
    · next ne =>
      refine .inr ⟨on, fun d' found same => ne ?_⟩
      rw [driving] at found
      rw [← same, Option.some.inj found]

theorem driverLaw_releaseOver {b : Bank} {d : Drive} (releases : (s.slot b).phase = .release) :
    DriverLaw (s.releaseOver b d) := by
  have inStep := law.1 b
  rw [releases] at inStep
  obtain ⟨-, boost, batt, -⟩ := law.2.1 b
  refine law.changeSlot (b := b) rfl rfl rfl inStep.releases ?_ (gatesFollow_of_driving (fun _ => id) ?_)
  · refine ⟨by simp, fun on => ?_, fun on => ?_, fun _ => rfl⟩
    · have := boost on
      simp [releases] at this
    · have := batt on
      simp [releases] at this
  · simp [State.releaseOver, State.slot, DriveSlot.driving, show (s.slots.get b).phase = .release from releases]

theorem driverLaw_countDrive (b : Bank) (c : Cyl) (faults : List FaultKind) : DriverLaw (s.countDrive b c faults) := by
  by_cases isolates : (s.faultsOf c).isolated = false ∧ s.plan.limits.val.isolation ≤ countAfter faults (s.faultsOf c).count
  · rw [State.countDrive_isolates b isolates]
    refine law.congr (by simp) (by simp) (fun b' => ?_) (by simp)
    simp only [State.mailOf, State.raiseBoth_mail, Quad.get_set]
    split
    · next same => rw [same]
    · rfl
  · rw [State.countDrive_counts b isolates]
    exact law

theorem driverLaw_completeRelease {b : Bank} {d : Drive} (releases : (s.slot b).phase = .release) :
    DriverLaw (s.completeRelease b d) := by
  cases holder : d.holder with
  | scheduled id =>
    rw [State.completeRelease_scheduled holder]
    exact driverLaw_countDrive (driverLaw_releaseOver law releases) _ _ _
  | service c =>
    rw [State.completeRelease_service holder]
    exact driverLaw_releaseOver law releases

theorem driverLaw_endDrive {b : Bank} {d : Drive} (driving : (s.slot b).driving = some d) (cause : Cause) :
    DriverLaw (s.endDrive b d cause) := by
  have ended := driverLaw_driveOver law driving cause
  rw [State.endDrive_eq]
  split
  · exact driverLaw_completeRelease ended (by simp [State.driveOver, State.slot, DriveSlot.endDrive])
  · exact ended

theorem driverLaw_faultDrive {b : Bank} {d : Drive} (driving : (s.slot b).driving = some d) (k : EndFault) :
    DriverLaw (s.faultDrive b d k) := by
  refine driverLaw_endDrive (driverLaw_recordFault law b d _) ?_ _
  rw [State.recordFault_eq, ← driving]
  simp [State.slot, DriveSlot.driving]

theorem driverLaw_noteEarlyPeak (b : Bank) (d : Drive) : DriverLaw (s.noteEarlyPeak b d) := by
  unfold State.noteEarlyPeak
  split
  · refine driverLaw_recordFault ?_ _ _ _
    refine law.changeSlot (b := b) (m := s.mailOf b) rfl rfl (by simp [State.mailOf]) (law.1 b) (law.2.1 b)
      (gatesFollow_of_driving (fun _ => id) ?_)
    simp [State.slot, State.setSlot, DriveSlot.driving]
  · exact law

theorem driverLaw_peakDrive {b : Bank} {d : Drive} (boosts : (s.slot b).inPhase .boost = some d) :
    DriverLaw (s.peakDrive b d) := by
  obtain ⟨phase, drive⟩ := DriveSlot.inPhase_iff.mp boosts
  obtain ⟨samePhase, sameDrive⟩ := noteEarlyPeak_driving s b d
  have noted := driverLaw_noteEarlyPeak law b d
  unfold State.peakDrive
  generalize s.noteEarlyPeak b d = u at noted samePhase sameDrive
  rw [phase] at samePhase
  rw [drive] at sameDrive
  have inStep := noted.1 b
  rw [samePhase] at inStep
  refine noted.changeSlot (b := b) rfl rfl rfl (inStep.peaks _) ?_ (gatesFollow_of_driving (fun _ => id) ?_)
  · simp [SlotLaw, DriveSlot.enterHold, State.reportBank, sameDrive]
  · have new : (u.slot b).driving = some d := DriveSlot.driving_iff.mpr ⟨.inl samePhase, sameDrive⟩
    rw [new, DriveSlot.driving_iff]
    simp [State.slot, State.setSlot, State.reportBank, State.setMail, DriveSlot.enterHold]
    exact sameDrive

/-- A drive starts on a bank that was IDLE and that has become HELD (R110, R120, R125). -/
theorem driverLaw_startDrive {u : State} {b : Bank} {r : BankRecord} (idle : (s.bank b).state = .idle) (held : r.state = .held)
    (waiting : r.recharge = .waiting) (banks : u.banks = s.banks.set b r) (slots : u.slots = s.slots) (mail : u.mail = s.mail)
    (gates : u.lowGates = s.lowGates) (d : Drive) (x : Sense) : DriverLaw (u.startDrive b d x) := by
  have inStep := law.1 b
  rw [idle] at inStep
  obtain ⟨off, reports⟩ := inStep.idle
  have begun : DriverLaw (((u.setSense b x).setSlot b (startedSlot d u.now)).setLowGate d.cyl true) := by
    refine law.changeAt (b := b) (sameElsewhere_of_set (r := r) (m := s.mailOf b) banks
      (x := startedSlot d u.now) (by simp [slots]) (by simpa [State.mailOf] using mail)) ?_ ?_ fun c on => ?_
    · have record : u.bank b = r := by rw [State.bank, banks, Quad.get_set_self]
      have mails : u.mailOf b = s.mailOf b := by rw [State.mailOf, mail, State.mailOf]
      simp [BankInStep, InStep, startedSlot, record, mails, held, waiting, reports]
    · simp [SlotLaw, startedSlot]
    · simp only [State.setLowGate_lowGates, State.setSlot_lowGates, State.setSense_lowGates, PerCyl.get_set] at on
      split at on
      · next same => exact .inl ⟨d, by simp [startedSlot, DriveSlot.driving], same.symm⟩
      · exact .inr ⟨gates ▸ on, fun d' found => by simp [DriveSlot.driving, off] at found⟩
  have boosts : ((((u.setSense b x).setSlot b (startedSlot d u.now)).setLowGate d.cyl true).slot b).inPhase .boost = some d := by
    simp [startedSlot, DriveSlot.inPhase]
  unfold State.startDrive
  dsimp only
  split
  · exact driverLaw_faultDrive begun (DriveSlot.driving_of_inPhase (.inl rfl) boosts) _
  · split
    · exact driverLaw_peakDrive begun boosts
    · exact begun

/-! ## Sense events, timers and cuts -/

theorem driverLaw_onPeak (b : Bank) (x : Sense) : DriverLaw (s.onPeak b x) := by
  unfold State.onPeak
  dsimp only
  split
  · next boosts => exact driverLaw_peakDrive (s := s.setSense b _) law boosts
  · exact law

/-- The battery gate and the hold-loss timer of a slot in HOLD are free. -/
theorem driverLaw_inHold {b : Bank} {x : DriveSlot} {d : Drive} (holds : (s.slot b).inPhase .hold = some d)
    (same : x = { s.slot b with battGate := x.battGate, holdLossTimer := x.holdLossTimer }) : DriverLaw (s.setSlot b x) := by
  obtain ⟨phase, drive⟩ := DriveSlot.inPhase_iff.mp holds
  obtain ⟨present, boost, -, off⟩ := law.2.1 b
  rw [same]
  refine law.changeSlot (b := b) (m := s.mailOf b) rfl rfl (by simp [State.mailOf]) (law.1 b)
    ⟨present, boost, fun _ => phase, off⟩ (gatesFollow_of_driving (fun _ => id) ?_)
  simp [State.slot, State.setSlot, DriveSlot.driving]

theorem driverLaw_onChop (b : Bank) (pk : Bool) : DriverLaw (s.onChop b pk) := by
  unfold State.onChop
  dsimp only
  split
  · next holds => exact driverLaw_inHold (s := s.setSense b _) law holds rfl
  · exact law

theorem driverLaw_onFloorEntry (b : Bank) : DriverLaw (s.onFloorEntry b) := by
  unfold State.onFloorEntry
  dsimp only
  split
  · next holds => exact driverLaw_inHold (s := s.setSense b _) law holds rfl
  · exact law

theorem driverLaw_onFloorExit (b : Bank) : DriverLaw (s.onFloorExit b) := by
  unfold State.onFloorExit
  dsimp only
  split
  · next holds => exact driverLaw_inHold (s := s.setSense b _) law holds rfl
  · exact law

theorem driverLaw_onHoldLoss (b : Bank) (x : Sense) : DriverLaw (s.onHoldLoss b x) := by
  unfold State.onHoldLoss
  split
  · next holds =>
    split
    · exact driverLaw_faultDrive (s := s.setSense b x) law (DriveSlot.driving_of_inPhase (.inr rfl) holds) _
    · exact law
  · exact law

theorem driverLaw_onPeakLimit (b : Bank) (x : Sense) : DriverLaw (s.onPeakLimit b x) := by
  unfold State.onPeakLimit
  split
  · next boosts =>
    split
    · exact driverLaw_faultDrive (s := s.setSense b x) law (DriveSlot.driving_of_inPhase (.inl rfl) boosts) _
    · exact law
  · exact law

theorem driverLaw_onTrip (b : Bank) (x : Sense) : DriverLaw (s.onTrip b x) := by
  have seen : DriverLaw (s.setSense b { x with tr := true }) := law
  unfold State.onTrip
  dsimp only
  split
  · next phase drive => exact driverLaw_faultDrive seen (DriveSlot.driving_iff.mpr ⟨.inl phase, drive⟩) _
  · next phase drive => exact driverLaw_faultDrive seen (DriveSlot.driving_iff.mpr ⟨.inr phase, drive⟩) _
  · exact driverLaw_recordFault seen _ _ _
  all_goals exact seen

theorem driverLaw_onDuration (b : Bank) (x : Sense) : DriverLaw (s.onDuration b x) := by
  unfold State.onDuration
  split
  · next driving =>
    split
    · exact driverLaw_endDrive (s := s.setSense b x) law driving _
    · exact law
  · exact law

theorem driverLaw_popCut (b : Bank) : DriverLaw (s.popCut b) := by
  refine law.congr rfl rfl (fun b' => ?_) rfl
  rw [State.popCut, State.mailOf_setMail]
  split
  · next same => rw [same]
  · rfl

theorem driverLaw_onCut (b : Bank) (x : Sense) : DriverLaw (s.onCut b x) := by
  have popped := driverLaw_popCut law b
  unfold State.onCut
  dsimp only
  split
  · split
    · next driving =>
      split
      · exact driverLaw_endDrive (s := (s.popCut b).setSense b x) popped driving _
      · exact popped
    · exact popped
  · exact law

theorem driverLaw_onZero (b : Bank) : DriverLaw (s.onZero b) := by
  unfold State.onZero
  dsimp only
  split
  · next releases => exact driverLaw_completeRelease (s := s.setSense b _) law (DriveSlot.inPhase_iff.mp releases).1
  · exact law

theorem driverLaw_onReleaseLimit (b : Bank) : DriverLaw (s.onReleaseLimit b) := by
  unfold State.onReleaseLimit
  split
  · next d releases =>
    split
    · have recorded := driverLaw_recordFault law b d .releaseSlow
      have phase : ((s.recordFault b d .releaseSlow).slot b).phase = .release := by
        rw [State.recordFault_eq]
        simpa [State.slot] using (DriveSlot.inPhase_iff.mp releases).1
      generalize s.recordFault b d .releaseSlow = u at recorded phase
      obtain ⟨present, -, -, off⟩ := recorded.2.1 b
      have gatesOff : DriverLaw ((u.setSlot b { u.slot b with boostGate := false, battGate := false }).lowGatesOff b) := by
        refine recorded.changeSlot (b := b) (x := { u.slot b with boostGate := false, battGate := false }) (m := u.mailOf b)
          (by simp) (by simp) (by simp [State.mailOf]) (recorded.1 b) ⟨present, nofun, nofun, off⟩
          (gatesFollow_of_driving (fun c on => ?_) ?_)
        · rw [State.lowGatesOff_get] at on
          split at on
          · cases on
          · exact on
        · simp [State.slot, DriveSlot.driving]
      exact driverLaw_completeRelease gatesOff (by simpa [State.slot] using phase)
    · exact law
  · exact law

/-! ## Grants, service pulses and reports to the cycle unit -/

theorem driverLaw_takeAccept (c : Cyl) (x : Sense) : DriverLaw (s.takeAccept c x) := by
  unfold State.takeAccept
  split
  · next b id profile duration _ =>
    dsimp only
    split
    · next offers =>
      have idle : (s.bank b).state = .idle := of_decide_eq_true (Bool.and_eq_true_iff.mp offers).1
      obtain ⟨held, waiting⟩ := BankRecord.grant_held (s.bank b) id s.now (s.plan.bankGroup b).preemptDelay
      exact driverLaw_startDrive law idle held waiting (by simp; rfl) (by simp) (by simp) (by simp) _ _
    · exact law
  all_goals exact law

theorem driverLaw_servicePulse (x : Sense) (p : Port) (ps : Params) : DriverLaw (servicePulse x p ps s).state := by
  obtain same | ⟨c, profile, duration, ⟨idle, -⟩, -, -, -, started⟩ := servicePulse_state x p ps s
  · rwa [same]
  · rw [started]
    unfold State.startService
    exact driverLaw_startDrive law (r := (s.bank (s.plan.bankOf c)).serve c) idle rfl rfl (by simp) (by simp) (by simp) (by simp)
      _ _

/-- Reports to the cycle unit are no concern of the banks. -/
theorem driverLaw_popCycleReport (b : Bank) : DriverLaw (s.popCycleReport b) := by
  refine law.congr rfl rfl (fun b' => ?_) rfl
  rw [State.popCycleReport, State.mailOf_setMail]
  split
  · next same => rw [same]
  · rfl

theorem driverLaw_takeDriveEnd (b : Bank) : DriverLaw (s.takeDriveEnd b) := by
  unfold State.takeDriveEnd
  split
  · exact (driverLaw_popCycleReport law b).congr (by simp) (by simp) (by simp) (by simp)
  all_goals exact law

theorem driverLaw_takeRelease (b : Bank) : DriverLaw (s.takeRelease b) := by
  unfold State.takeRelease
  split
  · exact driverLaw_popCycleReport law b
  all_goals exact law

theorem driverLaw_takeIsolation (b : Bank) : DriverLaw (s.takeIsolation b) := by
  unfold State.takeIsolation
  split
  · exact (driverLaw_popCycleReport law b).congr (by simp) (by simp) (by simp [State.mailOf]) (by simp)
  all_goals exact law

theorem driverLaw_serviceTakesDriveEnd (b : Bank) : DriverLaw (s.serviceTakesDriveEnd b) := by
  unfold State.serviceTakesDriveEnd
  split
  · exact driverLaw_popCycleReport law b
  all_goals exact law

theorem driverLaw_serviceTakesRelease (b : Bank) : DriverLaw (s.serviceTakesRelease b) := by
  have popped := driverLaw_popCycleReport law b
  unfold State.serviceTakesRelease
  dsimp only
  (repeat' split)
  · exact popped
  · exact popped
  · exact popped
  all_goals exact law

end

/-! ## Every command -/

/-- The commands that the drivers' law looks at. -/
def writesDrivers (c : Instr) : Bool := writesBanks c || writesSlots c || writesMail c || writesLowGates c

theorem exec_keeps_driverLaw {c : Instr} {s t : State} (law : DriverLaw s) (runs : exec c s = .next t) : DriverLaw t := by
  by_cases writes : writesDrivers c = false
  · simp only [writesDrivers, Bool.or_eq_false_iff] at writes
    obtain ⟨⟨⟨banks, slots⟩, mail⟩, gates⟩ := writes
    exact law.congr (exec_banks runs banks) (exec_slots runs slots)
      (fun b => by rw [State.mailOf, exec_mail runs mail, State.mailOf]) (exec_lowGates runs gates)
  · replace law : DriverLaw (s.advance c.delay) := law
    cases c with
    | powerOnReset dt =>
      exact Host.Outcome.next.inj runs ▸ driverLaw_powerOn (s.advance dt)
    | queueEntry dt c => exact Host.Outcome.next.inj runs ▸ driverLaw_takeEntry law c
    | queueRemoval dt c => exact Host.Outcome.next.inj runs ▸ driverLaw_takeRemoval law c
    | offerAccept dt c x => exact Host.Outcome.next.inj runs ▸ driverLaw_takeAccept law c x
    | offerRefusal dt c => exact Host.Outcome.next.inj runs ▸ driverLaw_takeRefusal law c
    | bankCut dt c => exact Host.Outcome.next.inj runs ▸ driverLaw_takeCut law c
    | boostEnd dt b => exact Host.Outcome.next.inj runs ▸ driverLaw_takeBoostEnd law b
    | bankDriveEnd dt b => exact Host.Outcome.next.inj runs ▸ driverLaw_bankTakesDriveEnd law b
    | bankReleaseComplete dt b => exact Host.Outcome.next.inj runs ▸ driverLaw_bankTakesRelease law b
    | rechargeExpiry dt b => exact Host.Outcome.next.inj runs ▸ driverLaw_rechargeBank law b
    | preemptExpiry dt b => exact Host.Outcome.next.inj runs ▸ driverLaw_preempt law b
    | peak dt b x => exact Host.Outcome.next.inj runs ▸ driverLaw_onPeak law b x
    | holdChop dt b pk => exact Host.Outcome.next.inj runs ▸ driverLaw_onChop law b pk
    | floorEntry dt b => exact Host.Outcome.next.inj runs ▸ driverLaw_onFloorEntry law b
    | floorExit dt b => exact Host.Outcome.next.inj runs ▸ driverLaw_onFloorExit law b
    | holdLossExpiry dt b x => exact Host.Outcome.next.inj runs ▸ driverLaw_onHoldLoss law b x
    | peakLimitExpiry dt b x => exact Host.Outcome.next.inj runs ▸ driverLaw_onPeakLimit law b x
    | trip dt b x => exact Host.Outcome.next.inj runs ▸ driverLaw_onTrip law b x
    | durationExpiry dt b x => exact Host.Outcome.next.inj runs ▸ driverLaw_onDuration law b x
    | driverCut dt b x => exact Host.Outcome.next.inj runs ▸ driverLaw_onCut law b x
    | zero dt b => exact Host.Outcome.next.inj runs ▸ driverLaw_onZero law b
    | releaseLimitExpiry dt b => exact Host.Outcome.next.inj runs ▸ driverLaw_onReleaseLimit law b
    | cycleDriveEnd dt b => exact Host.Outcome.next.inj runs ▸ driverLaw_takeDriveEnd law b
    | cycleReleaseComplete dt b => exact Host.Outcome.next.inj runs ▸ driverLaw_takeRelease law b
    | isolationEvent dt b => exact Host.Outcome.next.inj runs ▸ driverLaw_takeIsolation law b
    | serviceDriveEnd dt b => exact Host.Outcome.next.inj runs ▸ driverLaw_serviceTakesDriveEnd law b
    | serviceReleaseComplete dt b => exact Host.Outcome.next.inj runs ▸ driverLaw_serviceTakesRelease law b
    | servicePulse dt x =>
      rw [exec_servicePulse_eq] at runs
      exact serve_keeps_law runs law (fun _ _ _ => law) (fun p ps _ law => driverLaw_servicePulse law x p ps) (fun _ _ _ => id)
    | _ => exact absurd rfl writes

/-- Settles O49: every operation on a bank, a slot or the reports between them moves the two in step, and each drive's low-side
gate goes off with it. -/
theorem everyStepKeepsDriverLaw : Obligations.EveryStepKeepsDriverLaw := by
  unfold Obligations.EveryStepKeepsDriverLaw
  intro s t law steps
  exact step_keeps (law := DriverLaw) (fun _ _ => id) (fun _ _ _ => exec_keeps_driverLaw) law steps

end Sys2Proof.Machine
end

section
/-! SUPPORT. The law of the lanes (R85, R99): a record that is present is open, and a superseded one waits for nothing. It looks
at the two records alone, and each operation that writes one keeps it. -/

namespace Sys2Proof.Machine

/-! ## Records -/

/-- A record holds a pulse without an outcome where one has just been written. -/
theorem Record.open_setPulse {r : Record} {i : Nat} {p : ArmedPulse} (within : i < r.pulses.length)
    (unfinished : p.state.final = false) : (r.setPulse i p).Open :=
  ⟨p, List.mem_iff_getElem?.mpr ⟨i, by simp [Record.setPulse, within]⟩, unfinished⟩

theorem Record.pulse?_some {r : Record} {id : PulseId} {p : ArmedPulse} (found : r.pulse? id = some p) :
    r.cycle = id.cycle ∧ r.pulses[id.pos]? = some p := by
  unfold Record.pulse? at found
  split at found
  · next same => exact ⟨same, found⟩
  · cases found

/-- The earliest gated pulse is a pulse of the record at its position. -/
theorem Record.firstGated_mem {r : Record} {x : ArmedPulse × Nat} (found : r.firstGated = some x) :
    r.pulses[x.2]? = some x.1 ∧ x.1.state.gated = true := by
  unfold Record.firstGated at found
  have mem := List.mem_of_find?_eq_some found
  obtain ⟨-, within, value⟩ := List.mem_zipIdx mem
  have gated := List.find?_some found
  refine ⟨?_, gated⟩
  simp only [zero_add, Nat.sub_zero] at within value
  rw [List.getElem?_eq_getElem within, value]

/-- A record that drives is open still when its waiting pulses are dropped. -/
theorem Record.open_drop {r : Record} (drives : r.drives = true) (reason : DropReason) : (r.drop reason).Open := by
  obtain ⟨p, mem, driving⟩ := Record.drives_iff.mp drives
  refine ⟨p.drop reason, List.mem_map.mpr ⟨p, mem, rfl⟩, ?_⟩
  simp [PulseState.final, ArmedPulse.drop_drives, driving]

theorem Record.drop_waits {r : Record} {reason : DropReason} {p : ArmedPulse} (mem : p ∈ (r.drop reason).pulses) :
    p.state.waits = false := by
  obtain ⟨q, -, rfl⟩ := List.mem_map.mp mem
  exact q.drop_waits reason

theorem ArmedPulse.finish_waits (p : ArmedPulse) (cause : Cause) (early : Bool) (ended : Nat) :
    (p.finish cause early ended).state.waits = p.state.waits := by
  unfold ArmedPulse.finish
  split
  · next driven =>
    rw [driven]
    cases cause <;> rfl
  all_goals rfl

/-- A drive end makes no pulse of a record wait. -/
theorem Record.finish_waits {r : Record} (idle : ∀ p ∈ r.pulses, p.state.waits = false) (id : PulseId) (cause : Cause)
    (early : Bool) (ended : Nat) : ∀ p ∈ (r.finish id cause early ended).pulses, p.state.waits = false := by
  intro p mem
  unfold Record.finish at mem
  split at mem
  · next q found =>
    obtain old | rfl := List.mem_or_eq_of_mem_set mem
    · exact idle p old
    · rw [q.finish_waits]
      exact idle q (List.mem_of_getElem? (Record.pulse?_some found).2)
  · exact idle p mem

/-! ## Lanes -/

/-- The law of the superseded record (R85, R99). -/
def SupersededLaw (l : Lane) : Prop := ∀ r, l.superseded = some r → r.Open ∧ ∀ p ∈ r.pulses, p.state.waits = false

/-- The law looks at the two records alone. -/
theorem LaneLaw.congr {l l' : Lane} (law : LaneLaw l) (current : l'.current = l.current)
    (superseded : l'.superseded = l.superseded) : LaneLaw l' := by
  unfold LaneLaw
  rw [current, superseded]
  exact law

/-- An open record may be written as the current one. -/
theorem laneLaw_withCurrent {l : Lane} {r : Record} (superseded : SupersededLaw l) (current : l.current = some r)
    (isOpen : r.Open) : LaneLaw l :=
  ⟨fun _ same => Option.some.inj (current ▸ same) ▸ isOpen, superseded⟩

/-- Closing makes the law good for the current record, whatever it was (R99). -/
theorem laneLaw_closeCurrent {l : Lane} (superseded : SupersededLaw l) : LaneLaw l.closeCurrent := by
  cases current : l.current with
  | none =>
    rw [Lane.closeCurrent_none current]
    exact ⟨by simp [current], superseded⟩
  | some r =>
    rw [Lane.closeCurrent_eq current]
    split
    · next isOpen => exact laneLaw_withCurrent superseded current isOpen
    · exact ⟨nofun, superseded⟩

theorem supersededLaw_closeSuperseded {l : Lane} (idle : ∀ r, l.superseded = some r → ∀ p ∈ r.pulses, p.state.waits = false) :
    SupersededLaw l.closeSuperseded := by
  cases superseded : l.superseded with
  | none =>
    rw [Lane.closeSuperseded_none superseded]
    simp [SupersededLaw, superseded]
  | some r =>
    rw [Lane.closeSuperseded_eq superseded]
    split
    · next isOpen =>
      intro r' same
      obtain rfl := Option.some.inj (superseded ▸ same)
      exact ⟨isOpen, idle r superseded⟩
    · nofun

/-- The old cycle is closed: no superseded record is left, or the one that still drives (R85). -/
theorem laneLaw_closeOldCycle (l : Lane) (b : Bank) (c : Cyl) (now : Nat) :
    LaneLaw ((l.cutSuperseded b c now).overrunCurrent b c) := by
  have cut : (l.cutSuperseded b c now).superseded = none := by
    unfold Lane.cutSuperseded
    split
    · rfl
    · assumption
  have none : SupersededLaw (l.cutSuperseded b c now) := by simp [SupersededLaw, cut]
  generalize l.cutSuperseded b c now = l' at cut none
  unfold Lane.overrunCurrent
  split
  · next r _ =>
    dsimp only
    split
    · next drives =>
      refine ⟨nofun, fun x same => ?_⟩
      obtain rfl := Option.some.inj same
      exact ⟨Record.open_drop drives _, fun p => Record.drop_waits⟩
    · exact ⟨nofun, none⟩
  · next current => exact ⟨by simp [current], none⟩

section
variable {l : Lane} (law : LaneLaw l)
include law

theorem LaneLaw.handOver (b : Bank) (c : Cyl) (turn : Nat) : LaneLaw (l.handOver b c turn) := by
  unfold Lane.handOver
  (repeat' split)
  · next found =>
    obtain ⟨atPos, gated⟩ := Record.firstGated_mem found
    obtain ⟨since, deadline, due⟩ := PulseState.gated_iff.mp gated
    refine laneLaw_withCurrent law.2 rfl (Record.open_setPulse (List.getElem?_eq_some_iff.mp atPos).1 ?_)
    simp [ArmedPulse.enterQueue, due, PulseState.final, PulseState.waits]
  all_goals exact law

theorem LaneLaw.dropCurrent (b : Bank) (c : Cyl) (reason : DropReason) : LaneLaw (l.dropCurrent b c reason) := by
  unfold Lane.dropCurrent
  split
  · exact laneLaw_closeCurrent law.2
  · exact law

theorem LaneLaw.dropDue (b : Bank) (c : Cyl) (turn : Nat) (r : Record) (pos : Nat) (p : ArmedPulse) (reason : DropReason)
    (leave : List BankMessage) : LaneLaw (l.dropDue b c turn r pos p reason leave) := by
  unfold Lane.dropDue
  refine LaneLaw.handOver (laneLaw_closeCurrent ?_) b c turn
  exact law.2

theorem LaneLaw.driveEnded (id : PulseId) (cause : Cause) (early : Bool) (ended : Nat) :
    LaneLaw (l.driveEnded id cause early ended) := by
  unfold Lane.driveEnded
  dsimp only
  split
  · refine laneLaw_closeCurrent (supersededLaw_closeSuperseded fun r same => ?_)
    obtain ⟨x, superseded, rfl⟩ := Option.map_eq_some_iff.mp same
    exact Record.finish_waits (law.2 x superseded).2 id cause early ended
  · exact law

end

/-! ## The operations on the state -/

/-- The law of every lane. -/
abbrev LanesLaw (s : State) : Prop := ∀ c, LaneLaw (s.lane c)

theorem lanesLaw_of_lanes {s t : State} (law : LanesLaw s) (same : t.lanes = s.lanes) : LanesLaw t := by
  intro c
  rw [State.lane, same]
  exact law c

/-- One lane is written. -/
theorem lanesLaw_written {s t : State} (law : LanesLaw s) {c : Cyl} {l : Lane} (new : LaneLaw l)
    (written : t.lanes = s.lanes.set c l) : LanesLaw t := by
  intro c'
  rw [State.lane, written, PerCyl.get_set]
  split
  · exact new
  · exact law c'

theorem lanesLaw_setLane {s : State} (law : LanesLaw s) {c : Cyl} {l : Lane} (new : LaneLaw l) : LanesLaw (s.setLane c l) :=
  lanesLaw_written law new rfl

theorem laneLaw_reset : LaneLaw .reset := by simp [LaneLaw, Lane.reset]

theorem lanesLaw_powerOn (s : State) : LanesLaw s.powerOn := fun c => by cases c <;> exact laneLaw_reset

section
variable {s : State} (law : LanesLaw s)
include law

/-- A lane whose records stand is written. -/
theorem lanesLaw_sameRecords {c : Cyl} {l : Lane} (current : l.current = (s.lane c).current)
    (superseded : l.superseded = (s.lane c).superseded) : LanesLaw (s.setLane c l) :=
  lanesLaw_setLane law ((law c).congr current superseded)

theorem lanesLaw_popOutbox (c : Cyl) : LanesLaw (s.popOutbox c) := lanesLaw_sameRecords law rfl rfl

theorem lanesLaw_dropWaiting (c : Cyl) (reason : DropReason) : LanesLaw (s.dropWaiting c reason) :=
  lanesLaw_written law ((law c).dropCurrent (s.plan.bankOf c) c reason) (c := c) (by simp [State.dropWaiting])

theorem lanesLaw_losePhase (reason : DropReason) (c : Cyl) : LanesLaw (s.losePhase reason c) :=
  lanesLaw_sameRecords (lanesLaw_dropWaiting law c reason) rfl rfl

theorem lanesLaw_cycleTakesSync : LanesLaw s.cycleTakesSync := by
  unfold State.cycleTakesSync
  split
  · exact law
  · next n rest _ =>
    dsimp only
    split
    · have popped : LanesLaw { s with syncToCycle := rest } := law
      generalize ({ s with syncToCycle := rest } : State) = u at popped
      generalize Cyl.all = cs
      induction cs generalizing u with
      | nil => exact popped
      | cons c cs ih => exact ih _ (lanesLaw_losePhase popped n.dropReason c)
    · exact law

theorem lanesLaw_armPoint (c : Cyl) : LanesLaw (s.armPoint c) := by
  have closed : LanesLaw (s.closeOldCycle c) :=
    lanesLaw_written law (laneLaw_closeOldCycle (s.lane c) (s.plan.bankOf c) c s.now) (c := c) (by simp [State.closeOldCycle])
  unfold State.armPoint
  (repeat' split)
  · exact lanesLaw_sameRecords closed rfl rfl
  all_goals exact law

theorem lanesLaw_takeNotice (c : Cyl) : LanesLaw (s.takeNotice c) := by
  unfold State.takeNotice
  (repeat' split)
  · next a _ _ _ =>
    have answered := lanesLaw_sameRecords (c := c) law
      (l := { s.lane c with arming := some { a with answer := some (s.armingAnswer c) } }) rfl rfl
    exact lanesLaw_of_lanes answered (by simp)
  all_goals exact law

theorem lanesLaw_placeRecord (c : Cyl) (r : Record) : LanesLaw (s.placeRecord c r) :=
  lanesLaw_setLane law (laneLaw_closeCurrent (law c).2)

theorem lanesLaw_takeAnswer (c : Cyl) : LanesLaw (s.takeAnswer c) := by
  unfold State.takeAnswer
  (repeat' split)
  · next a _ _ x _ _ reason _ =>
    exact lanesLaw_of_lanes (lanesLaw_placeRecord law c ((makeRecord a x (s.faultsOf c).isolated).drop reason)) (by simp)
  · exact lanesLaw_placeRecord law c _
  all_goals exact law

theorem lanesLaw_startPoint (c : Cyl) (pos : Nat) : LanesLaw (s.startPoint c pos) := by
  unfold State.startPoint
  split
  · next r _ =>
    split
    · next p atPos =>
      split
      · refine lanesLaw_setLane law (LaneLaw.handOver ?_ _ _ _)
        refine laneLaw_withCurrent (law c).2 rfl (Record.open_setPulse (List.getElem?_eq_some_iff.mp atPos).1 ?_)
        simp [ArmedPulse.becomeDue, PulseState.final, PulseState.waits]
      · exact law
    · exact law
  · exact law

theorem lanesLaw_deadline (c : Cyl) (pos : Nat) : LanesLaw (s.deadline c pos) := by
  unfold State.deadline
  split
  · split
    · split
      · split
        · exact lanesLaw_of_lanes (lanesLaw_setLane (c := c) law ((law c).dropDue ..)) rfl
        · exact law
      all_goals exact law
    · exact law
  · exact law

theorem lanesLaw_endDwell (c : Cyl) : LanesLaw (s.endDwell c) := by
  unfold State.endDwell
  split
  · split
    · exact lanesLaw_setLane law (((law c).congr (l' := { s.lane c with injector := .ready }) rfl rfl).handOver _ _ _)
    · exact law
  all_goals exact law

theorem lanesLaw_acceptOffer (b : Bank) {id : PulseId} {r : Record} {p : ArmedPulse} (found : r.pulse? id = some p)
    (since duration : Nat) (clipped : Bool) : LanesLaw (s.acceptOffer b id r p since duration clipped) := by
  have energized : LaneLaw ({ s.lane id.cyl with
      current := some (r.setPulse id.pos (p.grant s.now since duration clipped))
      injector := .driving }.send [.accept b id p.merged.pulse.profile duration]) :=
    laneLaw_withCurrent (law id.cyl).2 rfl
      (Record.open_setPulse (List.getElem?_eq_some_iff.mp (Record.pulse?_some found).2).1 rfl)
  exact lanesLaw_written law energized (c := id.cyl) (by simp [State.acceptOffer])

theorem lanesLaw_takeOffer (b : Bank) : LanesLaw (s.takeOffer b) := by
  unfold State.takeOffer
  split
  · next e _ =>
    split
    · next r _ =>
      split
      · next p found =>
        split
        · split
          · split
            · exact lanesLaw_acceptOffer law b found _ _ _
            · exact lanesLaw_of_lanes (lanesLaw_setLane (c := e.id.cyl) law ((law e.id.cyl).dropDue ..)) rfl
          · exact law
        all_goals exact law
      · exact law
    · exact law
  · exact law

theorem lanesLaw_takeDriveEnd (b : Bank) : LanesLaw (s.takeDriveEnd b) := by
  unfold State.takeDriveEnd
  split
  · next id cause early _ ended _ _ =>
    exact lanesLaw_written law ((law id.cyl).driveEnded id cause early ended) (c := id.cyl) (by simp)
  all_goals exact law

theorem lanesLaw_startDwell (c : Cyl) (moment : Nat) : LanesLaw (s.startDwell c moment) := by
  refine lanesLaw_sameRecords law ?_ ?_
  all_goals
    unfold Lane.startDwell
    split <;> rfl

theorem lanesLaw_takeRelease (b : Bank) : LanesLaw (s.takeRelease b) := by
  unfold State.takeRelease
  split
  · exact lanesLaw_startDwell (s := s.popCycleReport b) law _ _
  all_goals exact law

theorem lanesLaw_takeIsolation (b : Bank) : LanesLaw (s.takeIsolation b) := by
  unfold State.takeIsolation
  split
  · exact lanesLaw_dropWaiting (s := s.popCycleReport b) law _ _
  all_goals exact law

theorem lanesLaw_takeToothNotice : LanesLaw s.takeToothNotice := by
  unfold State.takeToothNotice
  dsimp only
  (repeat' split)
  · exact law
  · exact lanesLaw_sameRecords (s := { s with toothNotices := _ }) law rfl rfl
  all_goals exact law

/-! ### The messages that the arbiter takes, and service pulses -/

theorem lanesLaw_takeEntry (c : Cyl) : LanesLaw (s.takeEntry c) := by
  unfold State.takeEntry
  (repeat' split)
  · exact law
  · exact lanesLaw_popOutbox law c
  all_goals exact law

theorem lanesLaw_takeRemoval (c : Cyl) : LanesLaw (s.takeRemoval c) := by
  unfold State.takeRemoval
  split
  · exact lanesLaw_popOutbox law c
  all_goals exact law

theorem lanesLaw_takeAccept (c : Cyl) (x : Sense) : LanesLaw (s.takeAccept c x) := by
  have popped := lanesLaw_popOutbox law c
  unfold State.takeAccept
  split
  · dsimp only
    split
    · exact lanesLaw_of_lanes popped (by simp)
    · exact popped
  all_goals exact law

theorem lanesLaw_takeRefusal (c : Cyl) : LanesLaw (s.takeRefusal c) := by
  unfold State.takeRefusal
  split
  · exact lanesLaw_popOutbox law c
  all_goals exact law

theorem lanesLaw_takeCut (c : Cyl) : LanesLaw (s.takeCut c) := by
  unfold State.takeCut
  split
  · exact lanesLaw_of_lanes (lanesLaw_popOutbox law c) (by simp)
  all_goals exact law

theorem lanesLaw_serviceTakesDriveEnd (b : Bank) : LanesLaw (s.serviceTakesDriveEnd b) := by
  unfold State.serviceTakesDriveEnd
  split
  · exact lanesLaw_sameRecords (s := (s.popCycleReport b).setService _) law rfl rfl
  all_goals exact law

theorem lanesLaw_serviceTakesRelease (b : Bank) : LanesLaw (s.serviceTakesRelease b) := by
  unfold State.serviceTakesRelease
  split
  · next c _ moment _ _ =>
    have dwells := lanesLaw_startDwell (s := s.popCycleReport b) law c moment
    dsimp only
    (repeat' split)
    · exact lanesLaw_of_lanes dwells (by simp)
    · exact dwells
    · exact dwells
  all_goals exact law

theorem lanesLaw_servicePulse (x : Sense) (p : Port) (ps : Params) : LanesLaw (servicePulse x p ps s).state := by
  obtain same | ⟨c, profile, duration, -, -, -, -, started⟩ := servicePulse_state x p ps s
  · rwa [same]
  · rw [started]
    exact lanesLaw_of_lanes (lanesLaw_sameRecords (c := c) law (l := { s.lane c with injector := .driving }) rfl rfl)
      (by simp [State.startService])

end

theorem exec_keeps_lanesLaw {c : Instr} {s t : State} (law : LanesLaw s) (runs : exec c s = .next t) : LanesLaw t := by
  by_cases writes : writesLanes c = false
  · exact lanesLaw_of_lanes law (exec_lanes runs writes)
  · replace law : LanesLaw (s.advance c.delay) := law
    cases c with
    | powerOnReset dt => exact Host.Outcome.next.inj runs ▸ lanesLaw_powerOn (s.advance dt)
    | armingPoint dt c => exact Host.Outcome.next.inj runs ▸ lanesLaw_armPoint law c
    | armingNotice dt c => exact Host.Outcome.next.inj runs ▸ lanesLaw_takeNotice law c
    | armingAnswer dt c => exact Host.Outcome.next.inj runs ▸ lanesLaw_takeAnswer law c
    | startPoint dt c pos => exact Host.Outcome.next.inj runs ▸ lanesLaw_startPoint law c pos
    | syncChange dt => exact Host.Outcome.next.inj runs ▸ lanesLaw_cycleTakesSync law
    | toothArrivalNotice dt => exact Host.Outcome.next.inj runs ▸ lanesLaw_takeToothNotice law
    | deadlineExpiry dt c pos => exact Host.Outcome.next.inj runs ▸ lanesLaw_deadline law c pos
    | dwellEnd dt c => exact Host.Outcome.next.inj runs ▸ lanesLaw_endDwell law c
    | grantOffer dt b => exact Host.Outcome.next.inj runs ▸ lanesLaw_takeOffer law b
    | cycleDriveEnd dt b => exact Host.Outcome.next.inj runs ▸ lanesLaw_takeDriveEnd law b
    | cycleReleaseComplete dt b => exact Host.Outcome.next.inj runs ▸ lanesLaw_takeRelease law b
    | isolationEvent dt b => exact Host.Outcome.next.inj runs ▸ lanesLaw_takeIsolation law b
    | queueEntry dt c => exact Host.Outcome.next.inj runs ▸ lanesLaw_takeEntry law c
    | queueRemoval dt c => exact Host.Outcome.next.inj runs ▸ lanesLaw_takeRemoval law c
    | offerAccept dt c x => exact Host.Outcome.next.inj runs ▸ lanesLaw_takeAccept law c x
    | offerRefusal dt c => exact Host.Outcome.next.inj runs ▸ lanesLaw_takeRefusal law c
    | bankCut dt c => exact Host.Outcome.next.inj runs ▸ lanesLaw_takeCut law c
    | serviceDriveEnd dt b => exact Host.Outcome.next.inj runs ▸ lanesLaw_serviceTakesDriveEnd law b
    | serviceReleaseComplete dt b => exact Host.Outcome.next.inj runs ▸ lanesLaw_serviceTakesRelease law b
    | servicePulse dt x =>
      rw [exec_servicePulse_eq] at runs
      exact serve_keeps_law runs law (fun _ _ _ => law) (fun p ps _ law => lanesLaw_servicePulse law x p ps) (fun _ _ _ => id)
    | _ => exact absurd rfl writes

/-- Settles O39: a record is written with a pulse left open or else closed, and a record becomes superseded with its waiting
pulses dropped. -/
theorem everyStepKeepsLaneLaw : Obligations.EveryStepKeepsLaneLaw := by
  unfold Obligations.EveryStepKeepsLaneLaw
  intro s t law steps
  exact step_keeps (law := LanesLaw) (fun _ _ => id) (fun _ _ _ => exec_keeps_lanesLaw) law steps

end Sys2Proof.Machine
end

section
/-! SUPPORT. The firing tables: what each operation on them does at a cylinder, and what a merge depends on. -/

namespace Sys2Proof.Machine

/-! ## What a merge depends on (R63 to R71) -/

/-- A contribution that is not LIVE gives nothing to a merge (R64). -/
theorem Contribution.candidates_of_not_live {k : Contribution} (dead : k.state ≠ .live) (p : Port) : k.candidates p = [] :=
  if_neg dead

/-- Candidates are given by state and pulses alone. -/
theorem Contribution.candidates_congr {k k' : Contribution} (state : k'.state = k.state) (pulses : k'.pulses = k.pulses) (p :
    Port) :
    k'.candidates p = k.candidates p := by
  simp only [Contribution.candidates, state, pulses]

/-- A merge looks at the candidates alone. -/
theorem Plan.verdicts_of_candidates (pl : Plan) {ka ka' kb kb' : Contribution} (a : ka'.candidates .a = ka.candidates .a)
    (b : kb'.candidates .b = kb.candidates .b) : pl.verdicts ka' kb' = pl.verdicts ka kb := by
  simp only [Plan.verdicts, a, b]

theorem Plan.mergeList_of_candidates (pl : Plan) {ka ka' kb kb' : Contribution} (a : ka'.candidates .a = ka.candidates .a)
    (b : kb'.candidates .b = kb.candidates .b) : pl.mergeList ka' kb' = pl.mergeList ka kb := by
  rw [Plan.mergeList, pl.verdicts_of_candidates a b, Plan.mergeList]

/-- Without a LIVE contribution the list is empty, whatever the plan (R63). -/
theorem Plan.mergeList_of_not_live (pl : Plan) {ka kb : Contribution} (a : ka.state ≠ .live) (b : kb.state ≠ .live) :
    pl.mergeList ka kb = [] := by
  simp [Plan.mergeList, Plan.verdicts, Contribution.candidates_of_not_live a, Contribution.candidates_of_not_live b, sortBy,
    Plan.judgeAll, acceptedOf]

theorem Plan.judgeAll_congr {pl pl' : Plan} (timing : pl'.timing = pl.timing) (ms accepted : List Merged) :
    pl'.judgeAll accepted ms = pl.judgeAll accepted ms := by
  have tooClose : pl'.tooClose = pl.tooClose := by funext x y; simp only [Plan.tooClose, timing]
  have judge : ∀ accepted m, pl'.judge accepted m = pl.judge accepted m := fun accepted m => by simp only [Plan.judge, tooClose]
  induction ms generalizing accepted with
  | nil => rfl
  | cons m rest ih => simp only [Plan.judgeAll, judge, ih]

/-- A merge looks at the plan's tie ports and minimum separation alone. -/
theorem Plan.mergeList_congr {pl pl' : Plan} (kind : pl'.kind = pl.kind) (timing : pl'.timing = pl.timing)
    (ka kb : Contribution) : pl'.mergeList ka kb = pl.mergeList ka kb := by
  have ranks : pl'.ranksBefore = pl.ranksBefore := by
    funext x y
    unfold Plan.ranksBefore Plan.tiePort
    rw [kind]
  simp only [Plan.mergeList, Plan.verdicts, ranks, Plan.judgeAll_congr timing]

/-! ## Contributions -/

theorem Contribution.withVerdicts_state (k : Contribution) (vs : List (Merged × Verdict)) (p : Port) :
    (k.withVerdicts vs p).state = k.state := by
  unfold Contribution.withVerdicts
  split <;> rfl

theorem Contribution.withVerdicts_pulses (k : Contribution) (vs : List (Merged × Verdict)) (p : Port) :
    (k.withVerdicts vs p).pulses = k.pulses := by
  unfold Contribution.withVerdicts
  split <;> rfl

theorem Contribution.withVerdicts_candidates (k : Contribution) (vs : List (Merged × Verdict)) (p q : Port) :
    (k.withVerdicts vs p).candidates q = k.candidates q :=
  Contribution.candidates_congr (k.withVerdicts_state vs p) (k.withVerdicts_pulses vs p) q

theorem Contribution.aged_state (k : Contribution) : k.aged.state = k.state := by
  unfold Contribution.aged
  split <;> rfl

theorem Contribution.aged_pulses (k : Contribution) : k.aged.pulses = k.pulses := by
  unfold Contribution.aged
  split <;> rfl

theorem Contribution.aged_candidates (k : Contribution) (p : Port) : k.aged.candidates p = k.candidates p :=
  Contribution.candidates_congr k.aged_state k.aged_pulses p

theorem Contribution.expire_of_not_atLimit {k : Contribution} {limit : Nat} (fresh : k.atLimit limit = false) :
    k.expire limit = k := by
  rw [Contribution.expire, fresh]
  rfl

/-- Nothing becomes LIVE by expiring. -/
theorem Contribution.live_of_expire {k : Contribution} {limit : Nat} (live : (k.expire limit).state = .live) :
    k.state = .live := by
  unfold Contribution.expire at live
  split at live
  · cases live
  · exact live

/-! ## A recomputation (R62, R71, R72) -/

theorem Tables.recompute_contribution (t : Tables) (pl : Plan) (c : Cyl) (p : Port) (d : Cyl) :
    (t.recompute pl c).contribution p d = if d = c then
      (t.contribution p c).withVerdicts (pl.verdicts (t.contribution .a c) (t.contribution .b c)) p else t.contribution p d := by
  cases p <;> simp [Tables.recompute, Tables.contribution_setContribution]

theorem Tables.recompute_active (t : Tables) (pl : Plan) (c d : Cyl) :
    (t.recompute pl c).active.get d = if d = c then
      ⟨pl.mergeList (t.contribution .a c) (t.contribution .b c), (t.active.get c).revision + 1⟩ else t.active.get d := by
  simp [Tables.recompute, Tables.setActive, PerCyl.get_set, Tables.setContribution]

@[simp] theorem State.recompute_tables (s : State) (c : Cyl) : (s.recompute c).tables = s.tables.recompute s.plan c := by
  simp [State.recompute]

@[simp] theorem State.publishOne_tables (s : State) (p : Port) (c : Cyl) :
    (s.publishOne p c).tables = (s.tables.publish p c).recompute s.plan c := by simp [State.publishOne]

@[simp] theorem State.withdrawOne_tables (s : State) (p : Port) (c : Cyl) :
    (s.withdrawOne p c).tables = (s.tables.withdraw p c).recompute s.plan c := by simp [State.withdrawOne]

@[simp] theorem Tables.setContribution_active (t : Tables) (p : Port) (c : Cyl) (k : Contribution) :
    (t.setContribution p c k).active = t.active := rfl

@[simp] theorem Tables.ageAndExpire_active (t : Tables) (pl : Plan) (p : Port) (c : Cyl) :
    (t.ageAndExpire pl p c).active = t.active := rfl

/-- The tables after the ages have stepped, recomputed if a contribution has expired (R55, R56, R77). -/
theorem State.stepAges_tables (s : State) (c : Cyl) :
    (s.stepAges c).tables =
      let aged := (s.tables.ageAndExpire s.plan .a c).ageAndExpire s.plan .b c
      if s.expires .a c || s.expires .b c then aged.recompute s.plan c else aged := by
  unfold State.stepAges
  dsimp only
  split <;> simp

end Sys2Proof.Machine
end

section
/-! SUPPORT. The law of the merge (R63): every list is the merge of its contributions, cylinder by cylinder. With the plan OPEN
every list is empty and none is LIVE, so that writing the plan makes no difference; CLOSED, only the tables change. -/

namespace Sys2Proof.Machine

/-- The list of `c` is the merge of the contributions for it. -/
def MergedAt (pl : Plan) (t : Tables) (c : Cyl) : Prop :=
  (t.active.get c).entries = pl.mergeList (t.contribution .a c) (t.contribution .b c)

/-- A recomputation makes the list of its cylinder the merge and leaves the others. -/
theorem mergedAt_recompute {pl : Plan} {t : Tables} {c : Cyl} (others : ∀ d, d ≠ c → MergedAt pl t d) (d : Cyl) :
    MergedAt pl (t.recompute pl c) d := by
  unfold MergedAt
  rw [Tables.recompute_active, Tables.recompute_contribution, Tables.recompute_contribution]
  split
  · exact (pl.mergeList_of_candidates (Contribution.withVerdicts_candidates ..) (Contribution.withVerdicts_candidates ..)).symm
  · next ne => exact others d ne

/-- A contribution for `c` has no part in the list of another cylinder. -/
theorem mergedAt_setContribution {pl : Plan} {t : Tables} {c d : Cyl} (merged : MergedAt pl t d) (ne : d ≠ c) (p : Port)
    (k : Contribution) : MergedAt pl (t.setContribution p c k) d := by
  unfold MergedAt at *
  simpa [Tables.contribution_setContribution, ne] using merged

/-- While the plan is OPEN and the law holds, the lists are empty, under this plan and any other. -/
theorem MergeLaw.of_open {s t : State} (law : MergeLaw s) (isOpen : s.plan.closed = false) (tables : t.tables = s.tables) :
    MergeLaw t := by
  obtain ⟨merged, dead⟩ := law
  have none := dead isOpen
  refine ⟨fun c => ?_, fun _ => tables ▸ none⟩
  rw [tables, merged, s.plan.mergeList_of_not_live (none .a c) (none .b c), t.plan.mergeList_of_not_live (none .a c) (none .b c)]

/-- The law looks at the tables, the plan's state, its tie ports and its minimum separation. -/
theorem MergeLaw.congr {s t : State} (law : MergeLaw s) (tables : t.tables = s.tables) (closed : t.plan.closed = s.plan.closed)
    (kind : t.plan.kind = s.plan.kind) (timing : t.plan.timing = s.plan.timing) : MergeLaw t := by
  obtain ⟨merged, dead⟩ := law
  refine ⟨fun c => ?_, fun isOpen => tables ▸ dead (closed ▸ isOpen)⟩
  rw [tables, merged, Plan.mergeList_congr kind timing]

theorem MergeLaw.of_plan {s t : State} (law : MergeLaw s) (tables : t.tables = s.tables) (plan : t.plan = s.plan) : MergeLaw t :=
  law.congr tables (by rw [plan]) (by rw [plan]) (by rw [plan])

theorem mergeLaw_powerOn (s : State) : MergeLaw s.powerOn := by
  have dead : ∀ p c, (s.powerOn.tables.contribution p c).state ≠ .live := fun p c => by cases p <;> cases c <;> nofun
  refine ⟨fun c => ?_, fun _ => dead⟩
  rw [Plan.mergeList_of_not_live _ (dead .a c) (dead .b c)]
  cases c <;> rfl

section
variable {s : State} (law : MergeLaw s)
include law

/-! ## The plan -/

theorem mergeLaw_planWrite (write : Option (Plan → Plan)) (fieldsOk : Bool) : MergeLaw (planWrite s write fieldsOk).state := by
  unfold planWrite
  split
  · exact law
  · next isOpen =>
    (repeat' split)
    · exact law
    · exact law.of_open (Bool.eq_false_iff.mpr isOpen) rfl
    · exact law

theorem mergeLaw_planClose (p : Port) (ps : Params) : MergeLaw (planClose p ps s).state := by
  unfold planClose
  split
  · exact law
  · next isOpen =>
    split
    · exact law
    · exact law.of_open (Bool.eq_false_iff.mpr isOpen) (by simp)

theorem mergeLaw_vote (p : Port) : MergeLaw (s.vote p) := by
  unfold State.vote
  split
  · have dead : ∀ q c, (s.reopenPlan.tables.contribution q c).state ≠ .live := fun q c => by
      simp only [State.reopenPlan, State.raiseBoth_tables]
      cases q <;> cases c <;> nofun
    refine ⟨fun c => ?_, fun _ => dead⟩
    rw [Plan.mergeList_of_not_live _ (dead .a c) (dead .b c)]
    simp only [State.reopenPlan, State.raiseBoth_tables]
    cases c <;> rfl
  · exact law.congr rfl rfl rfl rfl

theorem mergeLaw_planOpen (p : Port) (ps : Params) : MergeLaw (planOpen p ps s).state := by
  unfold planOpen
  split
  · exact law
  · exact mergeLaw_vote law p

theorem mergeLaw_tableTakesSync : MergeLaw s.tableTakesSync := by
  unfold State.tableTakesSync
  dsimp only
  (repeat' split)
  · exact law
  · exact law.congr rfl rfl rfl rfl
  · exact law

theorem mergeLaw_completeTransaction (p : Port) (rx : Wire) : MergeLaw (s.completeTransaction p rx) := by
  unfold State.completeTransaction State.judgeFrame State.resetPort
  (repeat' split)
  · exact law
  · exact law.congr rfl rfl rfl rfl
  all_goals exact law.of_plan rfl rfl

/-! ## The tables -/

/-- The lists and the contributions stand. -/
theorem mergeLaw_setTables {t : Tables} (active : t.active = s.tables.active) (contributions :
    t.contributions = s.tables.contributions) :
    MergeLaw (s.setTables t) := by
  obtain ⟨merged, dead⟩ := law
  refine ⟨fun c => ?_, fun isOpen p c => ?_⟩
  · have := merged c
    simp only [Tables.contribution] at this ⊢
    simpa [active, contributions] using this
  · have := dead isOpen p c
    simp only [Tables.contribution] at this ⊢
    simpa [contributions] using this

theorem mergeLaw_slotWritten (p : Port) (c : Cyl) (i : SlotIx) (u : Option Pulse) : MergeLaw (slotWritten s p c i u).state :=
  mergeLaw_setTables law rfl rfl

theorem mergeLaw_stagePulse (p : Port) (ps : Params) : MergeLaw (stagePulse p ps s).state := by
  unfold stagePulse
  dsimp only
  (repeat' split)
  · exact mergeLaw_slotWritten law ..
  all_goals exact law

theorem mergeLaw_clearSlot (p : Port) (ps : Params) : MergeLaw (clearSlot p ps s).state := by
  unfold clearSlot
  dsimp only
  (repeat' split)
  · exact mergeLaw_slotWritten law ..
  all_goals exact law

theorem mergeLaw_clearStage (p : Port) (ps : Params) : MergeLaw (clearStage p ps s).state := by
  unfold clearStage onMask
  dsimp only
  (repeat' split)
  · refine foldl_law (law := MergeLaw) (fun u c law => ?_) law _
    exact mergeLaw_setTables law rfl rfl
  all_goals exact law

/-- A contribution is written while the plan is CLOSED, and the list recomputed. -/
theorem mergeLaw_recompute (closed : s.plan.closed = true) (p : Port) (c : Cyl) (k : Contribution) :
    MergeLaw ((s.setTables (s.tables.setContribution p c k)).recompute c) := by
  refine ⟨fun d => ?_, fun isOpen => ?_⟩
  · simp only [State.recompute_tables, State.recompute_keeps, State.setTables_tables, State.setTables_plan]
    exact mergedAt_recompute (fun d ne => mergedAt_setContribution (law.1 d) ne p k) d
  · simp [closed] at isOpen

theorem mergeLaw_publish (p : Port) (ps : Params) : MergeLaw (publish p ps s).state := by
  unfold publish onMask
  dsimp only
  split
  · next closed =>
    split
    · refine (foldl_law (law := fun u => MergeLaw u ∧ u.plan.closed = true) (fun u c both => ?_) ⟨law, closed⟩ _).1
      exact ⟨mergeLaw_recompute both.1 both.2 p c _, by simp [both.2]⟩
    · exact law
  · exact law

theorem mergeLaw_withdraw (p : Port) (ps : Params) : MergeLaw (withdraw p ps s).state := by
  unfold withdraw onMask
  dsimp only
  split
  · next closed =>
    split
    · refine (foldl_law (law := fun u => MergeLaw u ∧ u.plan.closed = true) (fun u c both => ?_) ⟨law, closed⟩ _).1
      exact ⟨mergeLaw_recompute both.1 both.2 p c _, by simp [both.2]⟩
    · exact law
  · exact law

theorem mergeLaw_stepAges (c : Cyl) : MergeLaw (s.stepAges c) := by
  obtain ⟨merged, dead⟩ := law
  have others : ∀ d, d ≠ c → MergedAt s.plan ((s.tables.ageAndExpire s.plan .a c).ageAndExpire s.plan .b c) d := fun d ne =>
    mergedAt_setContribution (mergedAt_setContribution (merged d) ne _ _) ne _ _
  refine ⟨fun d => ?_, fun isOpen p d live => ?_⟩
  · simp only [State.stepAges_tables, State.stepAges_keeps]
    split
    · exact mergedAt_recompute others d
    · next fresh =>
      obtain ⟨freshA, freshB⟩ := Bool.or_eq_false_iff.mp (Bool.eq_false_iff.mpr fresh)
      by_cases same : d = c
      · subst same
        rw [Tables.ageAndExpire_active, Tables.ageAndExpire_active, merged, Tables.ageAndExpire_both, Tables.ageAndExpire_both,
          if_pos rfl, if_pos rfl, Contribution.expire_of_not_atLimit freshA, Contribution.expire_of_not_atLimit freshB]
        exact (s.plan.mergeList_of_candidates (Contribution.aged_candidates ..) (Contribution.aged_candidates ..)).symm
      · exact others d same
  · simp only [State.stepAges_keeps] at isOpen
    refine dead isOpen p d ?_
    have aged : (((s.tables.ageAndExpire s.plan .a c).ageAndExpire s.plan .b c).contribution p d).state = .live := by
      rw [State.stepAges_tables] at live
      dsimp only at live
      split at live
      · rw [Tables.recompute_contribution] at live
        split at live
        · next same =>
          subst same
          rwa [Contribution.withVerdicts_state] at live
        · exact live
      · exact live
    rw [Tables.ageAndExpire_both] at aged
    split at aged
    · exact Contribution.aged_state _ ▸ Contribution.live_of_expire aged
    · exact aged

theorem mergeLaw_takeNotice (c : Cyl) : MergeLaw (s.takeNotice c) := by
  unfold State.takeNotice
  (repeat' split)
  · refine mergeLaw_stepAges ?_ c
    exact law.of_plan rfl rfl
  all_goals exact law

end

theorem exec_keeps_mergeLaw {c : Instr} {s t : State} (law : MergeLaw s) (runs : exec c s = .next t) : MergeLaw t := by
  by_cases writes : (writesPlan c || writesTables c) = false
  · obtain ⟨plan, tables⟩ := Bool.or_eq_false_iff.mp writes
    exact law.of_plan (exec_tables runs tables) (exec_plan runs plan)
  · replace law : MergeLaw (s.advance c.delay) := law
    have taking : ∀ {mine act}, (s.advance c.delay).serve mine act = .next t →
        (∀ p ps u, MergeLaw u → MergeLaw (act p ps u).state) → MergeLaw t := fun takes rule =>
      serve_keeps_law takes law (fun _ _ _ => law.of_plan rfl rfl) rule (fun _ _ _ law => law.of_plan rfl rfl)
    cases c with
    | powerOnReset dt => exact Host.Outcome.next.inj runs ▸ mergeLaw_powerOn (s.advance dt)
    | syncChangeTableEngine dt => exact Host.Outcome.next.inj runs ▸ mergeLaw_tableTakesSync law
    | transactionComplete dt p rx => exact Host.Outcome.next.inj runs ▸ mergeLaw_completeTransaction law p rx
    | noneFrame dt p rest => exact Host.Outcome.next.inj runs ▸ mergeLaw_completeTransaction law p _
    | portReset dt p rest => exact Host.Outcome.next.inj runs ▸ mergeLaw_completeTransaction law p _
    | armingNotice dt c => exact Host.Outcome.next.inj runs ▸ mergeLaw_takeNotice law c
    | planSetEngine dt =>
      exact taking (act := planSetEngine) (exec_planSetEngine_eq dt s ▸ runs) fun _ _ _ law => mergeLaw_planWrite law _ _
    | planSetCylinder dt =>
      exact taking (act := planSetCylinder) (exec_planSetCylinder_eq dt s ▸ runs) fun _ _ _ law => mergeLaw_planWrite law _ _
    | planSetTiming dt =>
      exact taking (act := planSetTiming) (exec_planSetTiming_eq dt s ▸ runs) fun _ _ _ law => mergeLaw_planWrite law _ _
    | planSetKind dt =>
      exact taking (act := planSetKind) (exec_planSetKind_eq dt s ▸ runs) fun _ _ _ law => mergeLaw_planWrite law _ _
    | planSetBank dt =>
      exact taking (act := planSetBank) (exec_planSetBank_eq dt s ▸ runs) fun _ _ _ law => mergeLaw_planWrite law _ _
    | planSetProfile dt =>
      exact taking (act := planSetProfile) (exec_planSetProfile_eq dt s ▸ runs) fun _ _ _ law => mergeLaw_planWrite law _ _
    | planSetLimits dt =>
      exact taking (act := planSetLimits) (exec_planSetLimits_eq dt s ▸ runs) fun _ _ _ law => mergeLaw_planWrite law _ _
    | planClose dt => exact taking (exec_planClose_eq dt s ▸ runs) fun p ps _ law => mergeLaw_planClose law p ps
    | planOpen dt => exact taking (exec_planOpen_eq dt s ▸ runs) fun p ps _ law => mergeLaw_planOpen law p ps
    | stagePulse dt => exact taking (exec_stagePulse_eq dt s ▸ runs) fun p ps _ law => mergeLaw_stagePulse law p ps
    | clearSlot dt => exact taking (exec_clearSlot_eq dt s ▸ runs) fun p ps _ law => mergeLaw_clearSlot law p ps
    | clearStage dt => exact taking (exec_clearStage_eq dt s ▸ runs) fun p ps _ law => mergeLaw_clearStage law p ps
    | publish dt => exact taking (exec_publish_eq dt s ▸ runs) fun p ps _ law => mergeLaw_publish law p ps
    | withdraw dt => exact taking (exec_withdraw_eq dt s ▸ runs) fun p ps _ law => mergeLaw_withdraw law p ps
    | cutoutSet dt => exact taking (exec_cutoutSet_eq dt s ▸ runs) fun _ _ _ law => mergeLaw_setTables law rfl rfl
    | _ => exact absurd rfl writes

/-- Settles O29: a recomputation follows each change of a contribution, and the plan is written only while nothing is LIVE. -/
theorem everyStepKeepsMergeLaw : Obligations.EveryStepKeepsMergeLaw := by
  unfold Obligations.EveryStepKeepsMergeLaw
  intro s t law steps
  exact step_keeps (law := MergeLaw) (fun _ _ law => law.of_plan rfl rfl) (fun _ _ _ => exec_keeps_mergeLaw) law steps

end Sys2Proof.Machine
end

section
/-! SUPPORT. The law of the plan (R28 to R42): the requests that write it, those that close and open it, and the votes. -/

namespace Sys2Proof.Machine

/-- A group that is set holds fields in range (R28 to R36): the part of the plan's law that the PLAN_SET requests keep. -/
def GroupsInRange (pl : Plan) : Prop :=
  (pl.engine.isSet = true → pl.engine.val.inRange = true) ∧
  (∀ c, (pl.cylinder.get c).isSet = true → (pl.cylinder.get c).val.inRange = true) ∧
  (pl.timing.isSet = true → pl.timing.val.inRange = true) ∧
  (∀ k, (pl.kind.get k).isSet = true → (pl.kind.get k).val.tolerance ≤ 2000) ∧
  (∀ b, (pl.bank.get b).isSet = true → (pl.bank.get b).val.recharge ≤ 3000 ∧ (pl.bank.get b).val.preemptDelay ≤ 500) ∧
  (∀ i, (pl.profile.get i).isSet = true → (pl.profile.get i).val.inRange = true) ∧
  (pl.limits.isSet = true → pl.limits.val.inRange = true)

theorem planLaw_iff {pl : Plan} : PlanLaw pl ↔ GroupsInRange pl ∧
    (pl.closed = true → ∀ n, 1 ≤ n → n ≤ 10 → pl.ClosePasses n) ∧ (pl.closed = false → ∀ p, pl.votes.get p = false) := by
  simp only [PlanLaw, GroupsInRange, and_assoc]

/-- Votes may be taken back in any plan (R42), and given while it is CLOSED (R40). -/
theorem PlanLaw.withVotes {pl : Plan} (law : PlanLaw pl) {votes : PerPort Bool}
    (given : pl.closed = false → ∀ p, votes.get p = false) : PlanLaw { pl with votes := votes } := by
  obtain ⟨groups, checks, -⟩ := planLaw_iff.mp law
  exact planLaw_iff.mpr ⟨groups, checks, given⟩

theorem planLaw_reset : PlanLaw .reset := by
  refine planLaw_iff.mpr ⟨⟨nofun, fun c => ?_, nofun, fun k => ?_, fun b => ?_, fun i => ?_, nofun⟩, nofun, fun _ p => ?_⟩
  · cases c <;> nofun
  · cases k <;> nofun
  · cases b <;> nofun
  · cases i <;> nofun
  · cases p <;> rfl

@[simp] theorem State.closePlan_plan (s : State) : s.closePlan.plan = { s.plan with closed := true } := by
  simp [State.closePlan]

/-! ## Writing an OPEN plan (R29) -/

theorem planLaw_planWrite {s : State} (law : PlanLaw s.plan) {write : Option (Plan → Plan)} {fieldsOk : Bool}
    (groups : fieldsOk = true → ∀ w, write = some w → GroupsInRange s.plan → GroupsInRange (w s.plan))
    (frame : ∀ w, write = some w → (w s.plan).closed = s.plan.closed ∧ (w s.plan).votes = s.plan.votes) :
    PlanLaw (planWrite s write fieldsOk).state.plan := by
  unfold planWrite
  split
  · exact law
  · next isOpen =>
    split
    · exact law
    · next w =>
      split
      · next ok =>
        obtain ⟨inRange, -, votes⟩ := planLaw_iff.mp law
        obtain ⟨sameClosed, sameVotes⟩ := frame w rfl
        have stillOpen : (w s.plan).closed = false := by rw [sameClosed]; exact Bool.eq_false_iff.mpr isOpen
        exact planLaw_iff.mpr ⟨groups ok w rfl inRange, fun closed => by simp [stillOpen] at closed,
          fun isOpen p => (congrArg (·.get p) sameVotes).trans (votes (sameClosed ▸ isOpen) p)⟩
      · exact law

/-- One group of an indexed table is written. -/
theorem forall_get_set_cyl {α : Type} {law : α → Prop} {v : PerCyl α} (all : ∀ c, law (v.get c)) (c : Cyl) {a : α} (new : law a) :
    ∀ d, law ((v.set c a).get d) := by
  intro d
  rw [PerCyl.get_set]
  split
  · exact new
  · exact all d

theorem forall_get_set_kind {α : Type} {law : α → Prop} {v : PerKind α} (all : ∀ k, law (v.get k)) (k : Kind) {a : α}
    (new : law a) : ∀ l, law ((v.set k a).get l) := by
  intro l
  rw [PerKind.get_set]
  split
  · exact new
  · exact all l

theorem forall_get_set_four {α : Type} {law : α → Prop} {v : Quad α} (all : ∀ i, law (v.get i)) (i : Four) {a : α}
    (new : law a) : ∀ j, law ((v.set i a).get j) := by
  intro j
  rw [Quad.get_set]
  split
  · exact new
  · exact all j

section
variable {s : State} (law : PlanLaw s.plan) (p : Port) (ps : Params)
include law

theorem planLaw_planSetEngine : PlanLaw (planSetEngine p ps s).state.plan := by
  refine planLaw_planWrite law (fun ok w same groups => ?_) (fun w same => ?_) <;> obtain rfl := Option.some.inj same
  · exact ⟨fun _ => ok, groups.2⟩
  · exact ⟨rfl, rfl⟩

theorem planLaw_planSetCylinder : PlanLaw (planSetCylinder p ps s).state.plan := by
  refine planLaw_planWrite law (fun ok w same groups => ?_) (fun w same => ?_) <;>
    obtain ⟨c, -, rfl⟩ := Option.map_eq_some_iff.mp same
  · obtain ⟨engine, cylinder, others⟩ := groups
    exact ⟨engine,
      forall_get_set_cyl (law := fun g : Marked CylinderPlan => g.isSet = true → g.val.inRange = true) cylinder c fun _ => ok, others⟩
  · exact ⟨rfl, rfl⟩

theorem planLaw_planSetTiming : PlanLaw (planSetTiming p ps s).state.plan := by
  refine planLaw_planWrite law (fun ok w same groups => ?_) (fun w same => ?_) <;> obtain rfl := Option.some.inj same
  · obtain ⟨engine, cylinder, -, others⟩ := groups
    exact ⟨engine, cylinder, fun _ => ok, others⟩
  · exact ⟨rfl, rfl⟩

theorem planLaw_planSetKind : PlanLaw (planSetKind p ps s).state.plan := by
  refine planLaw_planWrite law (fun ok w same groups => ?_) (fun w same => ?_) <;>
    obtain ⟨k, -, rfl⟩ := Option.map_eq_some_iff.mp same
  · obtain ⟨engine, cylinder, timing, kind, others⟩ := groups
    exact ⟨engine, cylinder, timing,
      forall_get_set_kind (law := fun g : Marked KindPlan => g.isSet = true → g.val.tolerance ≤ 2000) kind k
      fun _ => ((within_iff _ _ _).mp ok).2, others⟩
  · exact ⟨rfl, rfl⟩

theorem planLaw_planSetBank : PlanLaw (planSetBank p ps s).state.plan := by
  refine planLaw_planWrite law (fun ok w same groups => ?_) (fun w same => ?_) <;> obtain rfl := Option.some.inj same
  · obtain ⟨engine, cylinder, timing, kind, bank, others⟩ := groups
    obtain ⟨recharge, delay⟩ := Bool.and_eq_true_iff.mp ok
    exact ⟨engine, cylinder, timing, kind,
      forall_get_set_four (law := fun g : Marked BankPlan => g.isSet = true → g.val.recharge ≤ 3000 ∧ g.val.preemptDelay ≤ 500) bank _
        fun _ => ⟨((within_iff _ _ _).mp recharge).2, ((within_iff _ _ _).mp delay).2⟩, others⟩
  · exact ⟨rfl, rfl⟩

theorem planLaw_planSetProfile : PlanLaw (planSetProfile p ps s).state.plan := by
  refine planLaw_planWrite law (fun ok w same groups => ?_) (fun w same => ?_) <;> obtain rfl := Option.some.inj same
  · obtain ⟨engine, cylinder, timing, kind, bank, profile, limits⟩ := groups
    exact ⟨engine, cylinder, timing, kind, bank,
      forall_get_set_four (law := fun g : Marked ProfilePlan => g.isSet = true → g.val.inRange = true) profile _ fun _ => ok, limits⟩
  · exact ⟨rfl, rfl⟩

theorem planLaw_planSetLimits : PlanLaw (planSetLimits p ps s).state.plan := by
  refine planLaw_planWrite law (fun ok w same groups => ?_) (fun w same => ?_) <;> obtain rfl := Option.some.inj same
  · obtain ⟨engine, cylinder, timing, kind, bank, profile, -⟩ := groups
    exact ⟨engine, cylinder, timing, kind, bank, profile, fun _ => ok⟩
  · exact ⟨rfl, rfl⟩

/-! ## Closing and opening (R38 to R42) -/

theorem planLaw_planClose : PlanLaw (planClose p ps s).state.plan := by
  unfold planClose
  split
  · exact law
  · split
    · exact law
    · next passes =>
      obtain ⟨groups, -, -⟩ := planLaw_iff.mp law
      rw [served_state, State.closePlan_plan]
      exact planLaw_iff.mpr ⟨groups, fun _ => Plan.firstFailure_closeChecks_none.mp passes, nofun⟩

theorem planLaw_vote (closed : s.plan.closed = true) : PlanLaw (s.vote p).plan := by
  unfold State.vote
  split
  · obtain ⟨groups, -, -⟩ := planLaw_iff.mp law
    simp only [State.reopenPlan, State.raiseBoth_plan]
    exact planLaw_iff.mpr ⟨groups, nofun, fun _ p => by cases p <;> rfl⟩
  · exact law.withVotes fun isOpen => by simp [closed] at isOpen

theorem planLaw_planOpen : PlanLaw (planOpen p ps s).state.plan := by
  unfold planOpen
  split
  · exact law
  · next passes => exact planLaw_vote law p (firstFailure_eq_none.mp passes _ (by simp [State.openConditions]))

omit p ps

theorem planLaw_tableTakesSync : PlanLaw s.tableTakesSync.plan := by
  unfold State.tableTakesSync
  dsimp only
  (repeat' split)
  · exact law
  · exact law.withVotes fun _ p => by cases p <;> rfl
  · exact law

theorem planLaw_completeTransaction (p : Port) (rx : Wire) : PlanLaw (s.completeTransaction p rx).plan := by
  obtain ⟨-, -, votes⟩ := planLaw_iff.mp law
  unfold State.completeTransaction State.judgeFrame State.resetPort
  (repeat' split)
  · exact law
  · refine law.withVotes fun isOpen q => ?_
    simp only [PerPort.get_set]
    split
    · rfl
    · exact votes isOpen q
  all_goals exact law

end

theorem exec_keeps_planLaw {c : Instr} {s t : State} (law : PlanLaw s.plan) (runs : exec c s = .next t) : PlanLaw t.plan := by
  by_cases writes : writesPlan c = false
  · rw [exec_plan runs writes]
    exact law
  · have taking : ∀ {mine act}, (s.advance c.delay).serve mine act = .next t →
        (∀ p ps u, PlanLaw u.plan → PlanLaw (act p ps u).state.plan) → PlanLaw t.plan := fun takes rule =>
      serve_keeps_law (law := fun u => PlanLaw u.plan) takes law (fun _ _ _ => law) rule (fun _ _ _ => id)
    cases c with
    | powerOnReset dt => exact Host.Outcome.next.inj runs ▸ planLaw_reset
    | syncChangeTableEngine dt => exact Host.Outcome.next.inj runs ▸ planLaw_tableTakesSync (s := s.advance dt) law
    | transactionComplete dt p rx => exact Host.Outcome.next.inj runs ▸ planLaw_completeTransaction (s := s.advance dt) law p rx
    | noneFrame dt p rest => exact Host.Outcome.next.inj runs ▸ planLaw_completeTransaction (s := s.advance dt) law p _
    | portReset dt p rest => exact Host.Outcome.next.inj runs ▸ planLaw_completeTransaction (s := s.advance dt) law p _
    | planSetEngine dt => exact taking (exec_planSetEngine_eq dt s ▸ runs) fun p ps _ law => planLaw_planSetEngine law p ps
    | planSetCylinder dt => exact taking (exec_planSetCylinder_eq dt s ▸ runs) fun p ps _ law => planLaw_planSetCylinder law p ps
    | planSetTiming dt => exact taking (exec_planSetTiming_eq dt s ▸ runs) fun p ps _ law => planLaw_planSetTiming law p ps
    | planSetKind dt => exact taking (exec_planSetKind_eq dt s ▸ runs) fun p ps _ law => planLaw_planSetKind law p ps
    | planSetBank dt => exact taking (exec_planSetBank_eq dt s ▸ runs) fun p ps _ law => planLaw_planSetBank law p ps
    | planSetProfile dt => exact taking (exec_planSetProfile_eq dt s ▸ runs) fun p ps _ law => planLaw_planSetProfile law p ps
    | planSetLimits dt => exact taking (exec_planSetLimits_eq dt s ▸ runs) fun p ps _ law => planLaw_planSetLimits law p ps
    | planClose dt => exact taking (exec_planClose_eq dt s ▸ runs) fun p ps _ law => planLaw_planClose law p ps
    | planOpen dt => exact taking (exec_planOpen_eq dt s ▸ runs) fun p ps _ law => planLaw_planOpen law p ps
    | _ => exact absurd rfl writes

end Sys2Proof.Machine
end

section
/-! SUPPORT. The law of R40: while the plan is OPEN the part is at rest. At rest no lane has anything to arm, drop or drive, no bank
anything to grant, and no list holds a pulse, so that no command but a PLAN_CLOSE can end the rest; and the plan opens at rest. -/

namespace Sys2Proof.Machine

/-! ## Lanes at rest -/

/-- Nothing of the lane is armed, and no acceptance of an offer is on its way from it (R40, log 27). -/
structure LaneIdle (l : Lane) : Prop where
  current : l.current = none
  superseded : l.superseded = none
  answer : ¬PulsesUnderWay l
  outbox : ∀ b id profile duration, BankMessage.accept b id profile duration ∉ l.outbox

namespace LaneIdle

variable {l : Lane} (idle : LaneIdle l)
include idle

/-- A lane whose records and arming stand and whose outbox gains no acceptance. -/
theorem congr {l' : Lane} (current : l'.current = l.current) (superseded : l'.superseded = l.superseded)
    (arming : l'.arming = l.arming)
    (outbox : ∀ b id profile duration, BankMessage.accept b id profile duration ∈ l'.outbox →
      BankMessage.accept b id profile duration ∈ l.outbox) : LaneIdle l' where
  current := current.trans idle.current
  superseded := superseded.trans idle.superseded
  answer := by
    unfold PulsesUnderWay
    rw [arming]
    exact idle.answer
  outbox b id profile duration mem := idle.outbox b id profile duration (outbox b id profile duration mem)

theorem inject (x : Injector) : LaneIdle { l with injector := x } := idle.congr rfl rfl rfl fun _ _ _ _ => id

theorem popped : LaneIdle { l with outbox := l.outbox.tail } := idle.congr rfl rfl rfl fun _ _ _ _ => List.mem_of_mem_tail

/-- An arming may be written that brings no pulses. -/
theorem withArming {a : Option Arming} (brings : ¬PulsesUnderWay { l with arming := a }) : LaneIdle { l with arming := a } :=
  ⟨idle.current, idle.superseded, brings, idle.outbox⟩

theorem closeOldCycle (b : Bank) (c : Cyl) (now : Nat) : (l.cutSuperseded b c now).overrunCurrent b c = l := by
  simp [Lane.cutSuperseded, idle.superseded, Lane.overrunCurrent, idle.current]

theorem dropCurrent (b : Bank) (c : Cyl) (reason : DropReason) : l.dropCurrent b c reason = l := by
  simp [Lane.dropCurrent, idle.current]

/-- A loss of phase keeps an arming from bringing pulses (R86). -/
theorem markLoss (reason : DropReason) : LaneIdle (l.markLoss reason) := by
  refine idle.withArming ?_
  rintro ⟨a, x, arming, loss, -⟩
  obtain ⟨a', -, rfl⟩ := Option.map_eq_some_iff.mp arming
  simp at loss

theorem driveEnded (id : PulseId) (cause : Cause) (early : Bool) (ended : Nat) :
    l.driveEnded id cause early ended = { l with injector := .releasing } := by
  simp [Lane.driveEnded, Lane.drivenPulse, idle.current, idle.superseded]

theorem startDwell (until_ : Nat) : LaneIdle (l.startDwell until_) := by
  unfold Lane.startDwell
  split
  · exact idle.inject _
  · exact idle

/-- The record of an arming that brings no pulses closes at once (R86, R99). -/
theorem takesAnswer {a : Arming} {x : ArmingAnswer} (arming : l.arming = some a) (answer : a.answer = some x) (isolated : Bool)
    {r : Record}
    (record : r = (a.loss.elim (makeRecord a x isolated) fun reason => (makeRecord a x isolated).drop reason)) :
    LaneIdle ({ l with arming := none, current := some r }.closeCurrent) := by
  have complete : ¬r.Open := by
    rintro ⟨p, mem, unfinished⟩
    subst record
    cases loss : a.loss with
    | some reason =>
      simp only [loss, Option.elim_some, makeRecord, Record.drop, List.mem_map] at mem
      obtain ⟨q, made, rfl⟩ := mem
      split at made
      · cases made
      · obtain ⟨m, -, rfl⟩ := List.mem_map.mp made
        simp [armedPulse, ArmedPulse.drop, PulseState.waits, PulseState.final, PulseState.drives] at unfinished
    | none =>
      simp only [loss, Option.elim_none, makeRecord] at mem
      split at mem
      · cases mem
      · next shown =>
        have cutOut : x.cutOut = false := by
          cases cut : x.cutOut
          · rfl
          · simp [cut] at shown
        refine idle.answer ⟨a, x, arming, loss, answer, cutOut, fun none => ?_⟩
        simp [none] at mem
  rw [Lane.closeCurrent_eq rfl, if_neg complete]
  exact ⟨rfl, idle.superseded, fun ⟨_, _, armed, _⟩ => by simp at armed, idle.outbox⟩

end LaneIdle

/-! ## The part at rest -/

/-- The body of the law of R40. -/
structure AtRest (s : State) : Prop where
  lanes : ∀ c, LaneIdle (s.lane c)
  service : s.service.inProgress = none
  banks : ∀ b, (s.bank b).state = .idle
  lists : ∀ c, (s.tables.active.get c).entries = []
  dead : ∀ p c, (s.tables.contribution p c).state ≠ .live

theorem openLaw_iff {s : State} : OpenLaw s ↔ (s.plan.closed = false → AtRest s) := by
  refine imp_congr_right fun _ => ⟨?_, ?_⟩
  · rintro ⟨armed, service, banks, lists, dead⟩
    exact ⟨fun c => ⟨(armed c).1.1, (armed c).1.2, (armed c).2, fun b => (banks b).2 c⟩, service, fun b => (banks b).1, lists, dead⟩
  · rintro ⟨lanes, service, banks, lists, dead⟩
    exact ⟨fun c => ⟨⟨(lanes c).current, (lanes c).superseded⟩, (lanes c).answer⟩, service,
      fun b => ⟨banks b, fun c => (lanes c).outbox b⟩, lists, dead⟩

/-- Rest looks at these blocks alone. -/
theorem AtRest.congr {s t : State} (rest : AtRest s) (lanes : t.lanes = s.lanes) (service : t.service = s.service)
    (banks : t.banks = s.banks) (tables : t.tables = s.tables) : AtRest t where
  lanes c := by rw [State.lane, lanes]; exact rest.lanes c
  service := service ▸ rest.service
  banks b := by rw [State.bank, banks]; exact rest.banks b
  lists := tables ▸ rest.lists
  dead := tables ▸ rest.dead

/-- One lane is written. -/
theorem AtRest.lane {s t : State} (rest : AtRest s) {c : Cyl} {l : Lane} (idle : LaneIdle l) (lanes : t.lanes = s.lanes.set c l)
    (service : t.service = s.service) (banks : t.banks = s.banks) (tables : t.tables = s.tables) : AtRest t where
  lanes d := by
    rw [State.lane, lanes, PerCyl.get_set]
    split
    · exact idle
    · exact rest.lanes d
  service := service ▸ rest.service
  banks b := by rw [State.bank, banks]; exact rest.banks b
  lists := tables ▸ rest.lists
  dead := tables ▸ rest.dead

theorem AtRest.setLane {s : State} (rest : AtRest s) (c : Cyl) {l : Lane} (idle : LaneIdle l) : AtRest (s.setLane c l) :=
  rest.lane idle rfl rfl rfl rfl

/-- One bank is written, and stays IDLE. -/
theorem AtRest.setBank {s : State} (rest : AtRest s) {b : Bank} {r : BankRecord} (idle : r.state = .idle) :
    AtRest (s.setBank b r) where
  lanes := rest.lanes
  service := rest.service
  banks b' := by
    rw [State.bank_setBank]
    split
    · exact idle
    · exact rest.banks b'
  lists := rest.lists
  dead := rest.dead

section
variable {s : State} (rest : AtRest s)
include rest

/-! ### The cycle unit -/

theorem AtRest.popOutbox (c : Cyl) : AtRest (s.popOutbox c) := rest.setLane c (rest.lanes c).popped

theorem AtRest.armPoint (c : Cyl) : AtRest (s.armPoint c) := by
  unfold State.armPoint
  (repeat' split)
  · next w _ _ =>
    have closed : (s.closeOldCycle c).lanes = s.lanes := by
      simp only [State.closeOldCycle, (rest.lanes c).closeOldCycle, State.raiseOrigins_lanes, State.setLane_lanes]
      exact PerCyl.set_get_self _ _
    refine rest.lane (c := c) (l := { s.lane c with arming := _ }) ((rest.lanes c).withArming ?_)
      (by simp [State.beginArming, State.lane, closed]; rfl) (by simp) (by simp) (by simp)
    rintro ⟨a, x, arming, -, answer, -⟩
    obtain rfl := Option.some.inj arming
    cases answer
  all_goals exact rest

theorem AtRest.takeAnswer (c : Cyl) : AtRest (s.takeAnswer c) := by
  unfold State.takeAnswer
  split
  · next a arming =>
    split
    · next x answer =>
      dsimp only
      split
      · next reason loss =>
        exact rest.lane (c := c) ((rest.lanes c).takesAnswer arming answer (s.faultsOf c).isolated (by rw [loss, Option.elim_some]))
          (by simp [State.placeRecord]) (by simp) (by simp) (by simp)
      · next loss =>
        exact rest.lane (c := c) ((rest.lanes c).takesAnswer arming answer (s.faultsOf c).isolated (by rw [loss, Option.elim_none]))
          (by simp [State.placeRecord]) (by simp) (by simp) (by simp)
    · exact rest
  · exact rest

theorem AtRest.startPoint (c : Cyl) (pos : Nat) : AtRest (s.startPoint c pos) := by
  simpa [State.startPoint, (rest.lanes c).current] using rest

theorem AtRest.deadline (c : Cyl) (pos : Nat) : AtRest (s.deadline c pos) := by
  simpa [State.deadline, (rest.lanes c).current] using rest

theorem AtRest.endDwell (c : Cyl) : AtRest (s.endDwell c) := by
  unfold State.endDwell
  split
  · split
    · rw [Lane.handOver_none _ _ _ (show ({ s.lane c with injector := .ready } : Lane).current = none from (rest.lanes c).current)]
      exact rest.setLane c ((rest.lanes c).inject _)
    · exact rest
  all_goals exact rest

theorem AtRest.dropWaiting (c : Cyl) (reason : DropReason) : AtRest (s.dropWaiting c reason) :=
  rest.congr (by
      simp only [State.dropWaiting, (rest.lanes c).dropCurrent, State.raiseOrigins_lanes, State.setLane_lanes]
      exact PerCyl.set_get_self _ _) (by simp) (by simp) (by simp)

theorem AtRest.losePhase (reason : DropReason) (c : Cyl) : AtRest (s.losePhase reason c) :=
  (rest.dropWaiting c reason).setLane c (((rest.dropWaiting c reason).lanes c).markLoss reason)

theorem AtRest.cycleTakesSync : AtRest s.cycleTakesSync := by
  unfold State.cycleTakesSync
  split
  · exact rest
  · next n more _ =>
    have popped : AtRest { s with syncToCycle := more } := rest.congr rfl rfl rfl rfl
    dsimp only
    split
    · exact foldl_law (law := AtRest) (fun _ c rest => AtRest.losePhase rest n.dropReason c) popped _
    · exact popped

theorem AtRest.takeOffer (b : Bank) : AtRest (s.takeOffer b) := by
  unfold State.takeOffer
  split
  · next e _ => simpa [(rest.lanes e.id.cyl).current] using rest
  · exact rest

theorem AtRest.takeDriveEnd (b : Bank) : AtRest (s.takeDriveEnd b) := by
  unfold State.takeDriveEnd
  split
  · next id cause early _ ended _ _ =>
    rw [(rest.lanes id.cyl).driveEnded]
    exact rest.lane (c := id.cyl) ((rest.lanes id.cyl).inject .releasing) (by simp) (by simp) (by simp) (by simp)
  all_goals exact rest

theorem AtRest.startDwell (c : Cyl) (moment : Nat) : AtRest (s.startDwell c moment) :=
  rest.setLane c ((rest.lanes c).startDwell _)

theorem AtRest.popCycleReport (b : Bank) : AtRest (s.popCycleReport b) := rest.congr rfl rfl rfl rfl

theorem AtRest.takeRelease (b : Bank) : AtRest (s.takeRelease b) := by
  unfold State.takeRelease
  split
  · exact (rest.popCycleReport b).startDwell _ _
  all_goals exact rest

theorem AtRest.takeIsolation (b : Bank) : AtRest (s.takeIsolation b) := by
  unfold State.takeIsolation
  split
  · exact (rest.popCycleReport b).dropWaiting _ _
  all_goals exact rest

/-! ### The table engine's notices, and the service function -/

theorem AtRest.stepAges (c : Cyl) : AtRest (s.stepAges c) := by
  have fresh : ∀ p, s.expires p c = false := fun p => by
    simp [State.expires, Contribution.atLimit, Contribution.aged_state, rest.dead p c]
  have tables : (s.stepAges c).tables = (s.tables.ageAndExpire s.plan .a c).ageAndExpire s.plan .b c := by
    simp [State.stepAges_tables, fresh]
  refine ⟨fun d => ?_, by simpa using rest.service, fun b => ?_, fun d => ?_, fun p d => ?_⟩
  · simpa [State.lane] using rest.lanes d
  · simpa [State.bank] using rest.banks b
  · rw [tables]
    exact rest.lists d
  · rw [tables, Tables.ageAndExpire_both]
    split
    · exact fun live => rest.dead p d (Contribution.aged_state _ ▸ Contribution.live_of_expire live)
    · exact rest.dead p d

theorem AtRest.takeNotice (c : Cyl) : AtRest (s.takeNotice c) := by
  unfold State.takeNotice
  split
  · next a arming =>
    split
    · refine AtRest.stepAges (rest.setLane c ((rest.lanes c).withArming ?_)) c
      rintro ⟨a', x, arming, -, answer, -, entries⟩
      obtain rfl := Option.some.inj arming
      obtain rfl := Option.some.inj answer
      exact entries (rest.lists c)
    · exact rest
  · exact rest

theorem AtRest.takeToothNotice : AtRest s.takeToothNotice := by
  unfold State.takeToothNotice
  split
  · exact rest
  · next n _ =>
    have taken : AtRest { s with toothNotices := n } := rest.congr rfl rfl rfl rfl
    simpa [rest.service] using taken

theorem AtRest.serviceTakesDriveEnd (b : Bank) : AtRest (s.serviceTakesDriveEnd b) := by
  unfold State.serviceTakesDriveEnd
  split
  · next c cause _ _ _ _ _ =>
    have same : s.service.driveEnded cause = fun _ => s.service := by
      funext energized
      simp only [ServiceFunction.driveEnded, rest.service, Option.map_none]
      rw [← rest.service]
    dsimp only
    refine rest.lane (c := c) ((rest.lanes c).inject .releasing) (by simp [State.lane]) ?_ (by simp) (by simp)
    simp [same]
  all_goals exact rest

theorem AtRest.serviceTakesRelease (b : Bank) : AtRest (s.serviceTakesRelease b) := by
  unfold State.serviceTakesRelease
  split
  · next c _ moment _ _ =>
    have dwells := (rest.popCycleReport b).startDwell c moment
    dsimp only
    split
    · next v progress =>
      rw [dwells.service] at progress
      cases progress
    · exact dwells
  all_goals exact rest

/-! ### The bank arbiter -/

theorem AtRest.takeEntry (c : Cyl) : AtRest (s.takeEntry c) := by
  unfold State.takeEntry
  split
  · next b e turn _ =>
    split
    · exact rest
    · refine (rest.popOutbox c).setBank ?_
      rw [BankRecord.join_eq]
      exact rest.banks b
  all_goals exact rest

theorem AtRest.takeRemoval (c : Cyl) : AtRest (s.takeRemoval c) := by
  unfold State.takeRemoval
  split
  · next b id _ =>
    refine (rest.popOutbox c).setBank ?_
    rw [BankRecord.remove_eq]
    exact rest.banks b
  all_goals exact rest

theorem AtRest.takeRefusal (c : Cyl) : AtRest (s.takeRefusal c) := by
  unfold State.takeRefusal
  split
  · next b id _ =>
    refine (rest.popOutbox c).setBank ?_
    rw [BankRecord.refused_eq]
    exact rest.banks b
  all_goals exact rest

/-- No acceptance is on its way. -/
theorem AtRest.takeAccept (c : Cyl) (x : Sense) : AtRest (s.takeAccept c x) := by
  unfold State.takeAccept
  split
  · next message => exact absurd (List.mem_of_mem_head? message) ((rest.lanes c).outbox _ _ _ _)
  all_goals exact rest

theorem AtRest.cutHolder (b : Bank) (h : Holder) : AtRest (s.cutHolder b h) :=
  rest.congr (by simp) (by simp) (by simp) (by simp)

theorem AtRest.takeCut (c : Cyl) : AtRest (s.takeCut c) := by
  unfold State.takeCut
  split
  · exact (rest.popOutbox c).cutHolder _ _
  all_goals exact rest

theorem AtRest.takeBoostEnd (b : Bank) : AtRest (s.takeBoostEnd b) := by
  unfold State.takeBoostEnd
  split
  · exact AtRest.setBank (s := s.popBankReport b) (rest.congr rfl rfl rfl rfl) (rest.banks b)
  all_goals exact rest

theorem AtRest.bankTakesDriveEnd (b : Bank) : AtRest (s.bankTakesDriveEnd b) := by
  have same : (s.bank b).driveEnded = s.bank b := by simp [BankRecord.driveEnded, rest.banks b]
  unfold State.bankTakesDriveEnd
  split
  · exact AtRest.setBank (s := s.popBankReport b) (rest.congr rfl rfl rfl rfl) (by rw [same, rest.banks b])
  · exact rest

theorem AtRest.bankTakesRelease (b : Bank) : AtRest (s.bankTakesRelease b) := by
  have same : (s.bank b).released = s.bank b := by simp [BankRecord.released, rest.banks b]
  unfold State.bankTakesRelease
  split
  · exact AtRest.setBank (s := s.popBankReport b) (rest.congr rfl rfl rfl rfl) (by rw [same, rest.banks b])
  · exact rest

theorem AtRest.rechargeBank (b : Bank) : AtRest (s.rechargeBank b) := by
  refine rest.setBank ?_
  unfold BankRecord.recharged
  simp only [rest.banks b]
  (repeat' split) <;> simp_all [rest.banks b]

theorem AtRest.preempt (b : Bank) : AtRest (s.preempt b) := by
  have stopped : AtRest (s.setBank b { s.bank b with preempt := none }) := rest.setBank (rest.banks b)
  unfold State.preempt
  (repeat' split)
  · exact stopped.cutHolder _ _
  · exact stopped
  all_goals exact rest

end

/-! ## The law of R40 -/

theorem OpenLaw.of_closed {s : State} (closed : s.plan.closed = true) : OpenLaw s := fun isOpen => by simp [closed] at isOpen

/-- A command that leaves the plan's state keeps the law if it keeps rest. -/
theorem OpenLaw.of_rest {s t : State} (law : OpenLaw s) (plan : t.plan.closed = s.plan.closed) (rest : AtRest s → AtRest t) :
    OpenLaw t :=
  openLaw_iff.mpr fun isOpen => rest (openLaw_iff.mp law (plan ▸ isOpen))

/-- The law looks at these blocks alone. -/
theorem OpenLaw.congr {s t : State} (law : OpenLaw s) (plan : t.plan.closed = s.plan.closed) (lanes : t.lanes = s.lanes)
    (service : t.service = s.service) (banks : t.banks = s.banks) (tables : t.tables = s.tables) : OpenLaw t :=
  law.of_rest plan fun rest => rest.congr lanes service banks tables

/-- A request that an OPEN plan refuses and that leaves the plan. -/
theorem OpenLaw.refused {s t : State} (law : OpenLaw s) (plan : t.plan = s.plan) (refused : s.plan.closed = false → t = s) :
    OpenLaw t := by
  cases closed : s.plan.closed with
  | true => exact .of_closed (plan ▸ closed)
  | false => exact refused closed ▸ law

theorem laneIdle_reset : LaneIdle .reset :=
  ⟨rfl, rfl, fun ⟨_, _, armed, _⟩ => by simp [Lane.reset] at armed, by simp [Lane.reset]⟩

theorem openLaw_powerOn (s : State) : OpenLaw s.powerOn :=
  openLaw_iff.mpr fun _ =>
    { lanes := fun c => by cases c <;> exact laneIdle_reset
      service := rfl
      banks := fun b => by cases b <;> rfl
      lists := fun c => by cases c <;> rfl
      dead := fun p c => by cases p <;> cases c <;> nofun }

section
variable {s : State} (law : OpenLaw s)
include law

theorem openLaw_planWrite (write : Option (Plan → Plan)) (fieldsOk : Bool)
    (frame : ∀ w, write = some w → (w s.plan).closed = s.plan.closed) : OpenLaw (planWrite s write fieldsOk).state := by
  unfold planWrite
  (repeat' split)
  · exact law
  · exact law
  · next w _ => exact law.congr (frame w rfl) rfl rfl rfl rfl
  · exact law

theorem openLaw_planClose (p : Port) (ps : Params) : OpenLaw (planClose p ps s).state := by
  unfold planClose
  (repeat' split)
  · exact law
  · exact law
  · exact .of_closed (by simp)

/-- The plan opens where the conditions of R40 hold, and its tables are then empty (R41). -/
theorem openLaw_planOpen (p : Port) (ps : Params) : OpenLaw (planOpen p ps s).state := by
  unfold planOpen
  split
  · exact law
  · next passes =>
    simp only [firstFailure_eq_none, State.openConditions, List.mem_cons, List.not_mem_nil, or_false, forall_eq_or_imp,
      forall_eq, s.nothingArmed_iff, List.all_eq_true, s.bankAtRest_iff, four_mem_all, forall_const] at passes
    obtain ⟨closed, -, armed, service, banks⟩ := passes
    rw [served_state, State.vote]
    split
    · refine openLaw_iff.mpr fun _ =>
        { lanes := fun c => by
            simpa [State.lane] using LaneIdle.mk (armed c).1.1 (armed c).1.2 (armed c).2 fun b => (banks b).2 c
          service := by simpa using service
          banks := fun b => by simpa [State.bank] using (banks b).1
          lists := fun c => ?_
          dead := fun q c => ?_ }
      · simp only [State.reopenPlan, State.raiseBoth_tables]
        cases c <;> rfl
      · simp only [State.reopenPlan, State.raiseBoth_tables]
        cases q <;> cases c <;> nofun
    · exact .of_closed closed

theorem openLaw_stagePulse (p : Port) (ps : Params) : OpenLaw (stagePulse p ps s).state :=
  law.refused (by simp) fun isOpen => by simp [stagePulse, isOpen]

theorem openLaw_clearSlot (p : Port) (ps : Params) : OpenLaw (clearSlot p ps s).state :=
  law.refused (by simp) fun isOpen => by simp [clearSlot, isOpen]

theorem openLaw_clearStage (p : Port) (ps : Params) : OpenLaw (clearStage p ps s).state :=
  law.refused (by simp) fun isOpen => by simp [clearStage, onMask, isOpen]

theorem openLaw_publish (p : Port) (ps : Params) : OpenLaw (publish p ps s).state :=
  law.refused (by simp) fun isOpen => by simp [publish, onMask, isOpen]

theorem openLaw_withdraw (p : Port) (ps : Params) : OpenLaw (withdraw p ps s).state :=
  law.refused (by simp) fun isOpen => by simp [withdraw, onMask, isOpen]

theorem openLaw_cutoutSet (p : Port) (ps : Params) : OpenLaw (cutoutSet p ps s).state :=
  law.of_rest rfl fun rest => ⟨rest.lanes, rest.service, rest.banks, rest.lists, rest.dead⟩

theorem openLaw_servicePulse (x : Sense) (p : Port) (ps : Params) : OpenLaw (servicePulse x p ps s).state := by
  refine law.refused (by simp) fun isOpen => ?_
  obtain same | ⟨_, _, _, -, -, closed, -⟩ := servicePulse_state x p ps s
  · exact same
  · simp [isOpen] at closed

theorem openLaw_tableTakesSync : OpenLaw s.tableTakesSync := by
  refine law.congr ?_ (by simp) (by simp) (by simp) (by simp)
  unfold State.tableTakesSync
  dsimp only
  (repeat' split) <;> rfl

theorem openLaw_completeTransaction (p : Port) (rx : Wire) : OpenLaw (s.completeTransaction p rx) := by
  refine law.congr ?_ (by simp) (by simp) (by simp) (by simp)
  unfold State.completeTransaction State.judgeFrame State.resetPort
  (repeat' split) <;> rfl

end

/-- The commands that the law of R40 looks at. -/
def writesRest (c : Instr) : Bool := writesPlan c || writesLanes c || writesService c || writesBanks c || writesTables c

theorem exec_keeps_openLaw {c : Instr} {s t : State} (law : OpenLaw s) (runs : exec c s = .next t) : OpenLaw t := by
  by_cases writes : writesRest c = false
  · simp only [writesRest, Bool.or_eq_false_iff] at writes
    obtain ⟨⟨⟨⟨plan, lanes⟩, service⟩, banks⟩, tables⟩ := writes
    exact law.congr (by rw [exec_plan runs plan]) (exec_lanes runs lanes) (exec_service runs service) (exec_banks runs banks)
      (exec_tables runs tables)
  · replace law : OpenLaw (s.advance c.delay) := law.congr rfl rfl rfl rfl rfl
    have taking : ∀ {mine act}, (s.advance c.delay).serve mine act = .next t →
        (∀ p ps u, OpenLaw u → OpenLaw (act p ps u).state) → OpenLaw t := fun takes rule =>
      serve_keeps_law takes law (fun _ _ _ => law.congr rfl rfl rfl rfl rfl) rule (fun _ _ _ law => law.congr rfl rfl rfl rfl rfl)
    have resting : ∀ {u}, .next u = exec c s → u.plan = (s.advance c.delay).plan → (AtRest (s.advance c.delay) → AtRest u) →
        OpenLaw t := fun same plan rest =>
      Host.Outcome.next.inj (same.trans runs) ▸ law.of_rest (congrArg Plan.closed plan) rest
    cases c with
    | powerOnReset dt => exact Host.Outcome.next.inj runs ▸ openLaw_powerOn (s.advance dt)
    | armingPoint dt c => exact resting rfl (by simp) fun rest => rest.armPoint c
    | armingNotice dt c => exact resting rfl (by simp) fun rest => rest.takeNotice c
    | armingAnswer dt c => exact resting rfl (by simp) fun rest => rest.takeAnswer c
    | startPoint dt c pos => exact resting rfl (by simp) fun rest => rest.startPoint c pos
    | syncChange dt => exact resting rfl (by simp) fun rest => rest.cycleTakesSync
    | toothArrivalNotice dt => exact resting rfl (by simp) fun rest => rest.takeToothNotice
    | deadlineExpiry dt c pos => exact resting rfl (by simp) fun rest => rest.deadline c pos
    | dwellEnd dt c => exact resting rfl (by simp) fun rest => rest.endDwell c
    | grantOffer dt b => exact resting rfl (by simp) fun rest => rest.takeOffer b
    | cycleDriveEnd dt b => exact resting rfl (by simp) fun rest => rest.takeDriveEnd b
    | cycleReleaseComplete dt b => exact resting rfl (by simp) fun rest => rest.takeRelease b
    | isolationEvent dt b => exact resting rfl (by simp) fun rest => rest.takeIsolation b
    | queueEntry dt c => exact resting rfl (by simp) fun rest => rest.takeEntry c
    | queueRemoval dt c => exact resting rfl (by simp) fun rest => rest.takeRemoval c
    | offerAccept dt c x => exact resting rfl (by simp) fun rest => rest.takeAccept c x
    | offerRefusal dt c => exact resting rfl (by simp) fun rest => rest.takeRefusal c
    | bankCut dt c => exact resting rfl (by simp) fun rest => rest.takeCut c
    | boostEnd dt b => exact resting rfl (by simp) fun rest => rest.takeBoostEnd b
    | bankDriveEnd dt b => exact resting rfl (by simp) fun rest => rest.bankTakesDriveEnd b
    | bankReleaseComplete dt b => exact resting rfl (by simp) fun rest => rest.bankTakesRelease b
    | rechargeExpiry dt b => exact resting rfl (by simp) fun rest => rest.rechargeBank b
    | preemptExpiry dt b => exact resting rfl (by simp) fun rest => rest.preempt b
    | serviceDriveEnd dt b => exact resting rfl (by simp) fun rest => rest.serviceTakesDriveEnd b
    | serviceReleaseComplete dt b => exact resting rfl (by simp) fun rest => rest.serviceTakesRelease b
    | syncChangeTableEngine dt => exact Host.Outcome.next.inj runs ▸ openLaw_tableTakesSync law
    | transactionComplete dt p rx => exact Host.Outcome.next.inj runs ▸ openLaw_completeTransaction law p rx
    | noneFrame dt p rest => exact Host.Outcome.next.inj runs ▸ openLaw_completeTransaction law p _
    | portReset dt p rest => exact Host.Outcome.next.inj runs ▸ openLaw_completeTransaction law p _
    | planSetEngine dt =>
      refine taking (act := planSetEngine) (exec_planSetEngine_eq dt s ▸ runs) fun _ _ _ law => openLaw_planWrite law _ _ ?_
      rintro _ ⟨⟩
      rfl
    | planSetCylinder dt =>
      refine taking (act := planSetCylinder) (exec_planSetCylinder_eq dt s ▸ runs) fun _ _ _ law =>
        openLaw_planWrite law _ _ fun w same => ?_
      obtain ⟨c, -, rfl⟩ := Option.map_eq_some_iff.mp same
      rfl
    | planSetTiming dt =>
      refine taking (act := planSetTiming) (exec_planSetTiming_eq dt s ▸ runs) fun _ _ _ law => openLaw_planWrite law _ _ ?_
      rintro _ ⟨⟩
      rfl
    | planSetKind dt =>
      refine taking (act := planSetKind) (exec_planSetKind_eq dt s ▸ runs) fun _ _ _ law =>
        openLaw_planWrite law _ _ fun w same => ?_
      obtain ⟨c, -, rfl⟩ := Option.map_eq_some_iff.mp same
      rfl
    | planSetBank dt =>
      refine taking (act := planSetBank) (exec_planSetBank_eq dt s ▸ runs) fun _ _ _ law => openLaw_planWrite law _ _ ?_
      rintro _ ⟨⟩
      rfl
    | planSetProfile dt =>
      refine taking (act := planSetProfile) (exec_planSetProfile_eq dt s ▸ runs) fun _ _ _ law => openLaw_planWrite law _ _ ?_
      rintro _ ⟨⟩
      rfl
    | planSetLimits dt =>
      refine taking (act := planSetLimits) (exec_planSetLimits_eq dt s ▸ runs) fun _ _ _ law => openLaw_planWrite law _ _ ?_
      rintro _ ⟨⟩
      rfl
    | planClose dt => exact taking (exec_planClose_eq dt s ▸ runs) fun p ps _ law => openLaw_planClose law p ps
    | planOpen dt => exact taking (exec_planOpen_eq dt s ▸ runs) fun p ps _ law => openLaw_planOpen law p ps
    | stagePulse dt => exact taking (exec_stagePulse_eq dt s ▸ runs) fun p ps _ law => openLaw_stagePulse law p ps
    | clearSlot dt => exact taking (exec_clearSlot_eq dt s ▸ runs) fun p ps _ law => openLaw_clearSlot law p ps
    | clearStage dt => exact taking (exec_clearStage_eq dt s ▸ runs) fun p ps _ law => openLaw_clearStage law p ps
    | publish dt => exact taking (exec_publish_eq dt s ▸ runs) fun p ps _ law => openLaw_publish law p ps
    | withdraw dt => exact taking (exec_withdraw_eq dt s ▸ runs) fun p ps _ law => openLaw_withdraw law p ps
    | cutoutSet dt => exact taking (exec_cutoutSet_eq dt s ▸ runs) fun p ps _ law => openLaw_cutoutSet law p ps
    | servicePulse dt x => exact taking (exec_servicePulse_eq dt x s ▸ runs) fun p ps _ law => openLaw_servicePulse law x p ps
    | _ => exact absurd rfl writes

/-- Settles O20: the PLAN_SET requests write an OPEN plan in range, PLAN_CLOSE passes the ten checks, PLAN_OPEN the five conditions,
and in an OPEN plan nothing can start. -/
theorem everyStepKeepsPlanLaw : Obligations.EveryStepKeepsPlanLaw := by
  unfold Obligations.EveryStepKeepsPlanLaw
  intro s t steps
  exact ⟨fun law => step_keeps (law := fun u => PlanLaw u.plan) (fun _ _ => id) (fun _ _ _ => exec_keeps_planLaw) law steps,
    fun law => step_keeps (fun _ _ law => law.congr rfl rfl rfl rfl rfl) (fun _ _ _ => exec_keeps_openLaw) law steps⟩

end Sys2Proof.Machine
end

section
/-! SUPPORT. The queue of commands and reset: what a step takes, that every command answers, and the state after POWER_ON_RESET. -/

namespace Sys2Proof.Machine

/-- Settles O1: both halves are the two cases of `step`. -/
theorem stepTakesFrontCommand : Obligations.StepTakesFrontCommand := by
  unfold Obligations.StepTakesFrontCommand
  exact fun s => ⟨fun _ _ => rfl, rfl⟩

/-- What every command leaves of the state it runs on, after its delay. -/
def Answers (outcome : Host.Outcome State Fault Refusal) (s : State) : Prop :=
  ∃ t, outcome = .next t ∧ t.pending = s.pending ∧ t.now = s.now

theorem answers_next {s t : State} (pending : t.pending = s.pending) (now : t.now = s.now) : Answers (.next t) s :=
  ⟨t, rfl, pending, now⟩

/-- A taking answers, and keeps time and queue if the request's rule does. -/
theorem answers_serve (s : State) (mine : Byte → Bool) {act : Port → Params → State → Served}
    (rule : ∀ p ps u, (act p ps u).state.pending = u.pending ∧ (act p ps u).state.now = u.now) : Answers (s.serve mine act) s := by
  obtain ⟨t, takes, -⟩ := s.serve_next mine act
  refine ⟨t, takes, ?_, ?_⟩
  · exact serve_keeps State.pending (fun _ _ _ => rfl) (fun _ _ => rfl) takes fun p ps u => (rule p ps u).1
  · exact serve_keeps State.now (fun _ _ _ => rfl) (fun _ _ => rfl) takes fun p ps u => (rule p ps u).2

theorem exec_answers (c : Instr) (s : State) : Answers (exec c s) (s.advance c.delay) := by
  cases c with
  | powerOnReset | toothArrival | stallExpiry | armingPoint | armingNotice | armingAnswer | startPoint | syncChange
  | syncChangeTableEngine | toothArrivalNotice | deadlineExpiry | dwellEnd | grantOffer | cycleDriveEnd | cycleReleaseComplete
  | isolationEvent | queueEntry | queueRemoval | offerAccept | offerRefusal | boostEnd | bankDriveEnd | bankReleaseComplete
  | rechargeExpiry | preemptExpiry | bankCut | driverCut | peak | holdChop | floorEntry | floorExit | holdLossExpiry
  | peakLimitExpiry | trip | durationExpiry | zero | releaseLimitExpiry | serviceDriveEnd | serviceReleaseComplete
  | transactionBegin | transactionComplete | shortTransaction | noneFrame | portReset =>
    exact answers_next (by simp [Instr.delay, State.powerOn]) (by simp [Instr.delay, State.powerOn])
  | unknownRequest | planSetEngine | planSetCylinder | planSetTiming | planSetKind | planSetBank | planSetProfile | planSetLimits
  | planRead | planClose | planOpen | stagePulse | clearSlot | clearStage | publish | withdraw | cutoutSet | reinstate | servicePulse
  | serviceRead | portSetup | flagsRead | flagsClear | cursorSet | cursorRead | angleRead =>
    simp only [exec_unknownRequest_eq, exec_planSetEngine_eq, exec_planSetCylinder_eq, exec_planSetTiming_eq, exec_planSetKind_eq,
      exec_planSetBank_eq, exec_planSetProfile_eq, exec_planSetLimits_eq, exec_planRead_eq, exec_planClose_eq,
      exec_planOpen_eq, exec_stagePulse_eq, exec_clearSlot_eq, exec_clearStage_eq, exec_publish_eq, exec_withdraw_eq,
      exec_cutoutSet_eq, exec_reinstate_eq, exec_servicePulse_eq, exec_serviceRead_eq, exec_portSetup_eq, exec_flagsRead_eq,
      exec_flagsClear_eq, exec_cursorSet_eq, exec_cursorRead_eq, exec_angleRead_eq]
    exact answers_serve (s.advance _) _ fun p ps u => by simp

/-- Settles O2: each command is an operation on the state or a taking of the table engine, and both answer a next state. -/
theorem everyCommandAnswersNext : Obligations.EveryCommandAnswersNext := by
  unfold Obligations.EveryCommandAnswersNext
  exact exec_answers

/-- Settles O3: each field is read off the state after reset, index by index where it is a table. -/
theorem powerOnResetState : Obligations.PowerOnResetState := by
  unfold Obligations.PowerOnResetState
  refine fun dt s => ⟨(s.advance dt).powerOn, rfl, rfl, rfl, rfl, rfl, rfl, rfl, rfl, rfl, rfl, fun p => ?_, rfl, fun c => ?_, rfl,
    fun k => ?_, fun b => ?_, fun i => ?_, rfl, fun p c i => ?_, fun p c => ?_, fun c => ?_, fun p => ?_, fun c => ?_, rfl,
    fun b => ?_, fun b => ?_, fun b => ?_, fun c => ?_, fun c => ?_, fun p => ?_, rfl⟩
  · cases p <;> rfl
  · cases c <;> rfl
  · cases k <;> rfl
  · cases b <;> rfl
  · cases i <;> rfl
  · cases p <;> cases c <;> cases i <;> rfl
  · cases p <;> cases c <;> rfl
  · cases c <;> rfl
  · cases p <;> rfl
  · cases c <;> rfl
  · cases b <;> rfl
  · cases b <;> rfl
  · cases b <;> rfl
  · cases c <;> rfl
  · cases c <;> rfl
  · cases p <;> rfl

/-- Settles O60: the state after reset is what POWER_ON_RESET leaves of itself, and each law holds after a POWER_ON_RESET. -/
theorem resetMeetsEveryLaw : Obligations.ResetMeetsEveryLaw := by
  unfold Obligations.ResetMeetsEveryLaw
  exact ⟨planLaw_reset, openLaw_powerOn .reset, TrackerLaw.stop .reset, mergeLaw_powerOn .reset, lanesLaw_powerOn .reset,
    banksLaw_powerOn .reset, driverLaw_powerOn .reset, portsLaw_powerOn .reset⟩

end Sys2Proof.Machine
end

section
/-! SUPPORT. What a tooth arrival makes of the tracker, by sync state and by the period it ends, and the statements on teeth and
stalls. -/

namespace Sys2Proof.Machine

/-! ## The arrival -/

theorem exec_toothArrival (dt : Nat) (cam : Bool) (s : State) :
    exec (.toothArrival dt cam) s = .next ((s.advance dt).tooth cam) := rfl

/-- The tracker after an arrival that ends a period (R3). -/
theorem State.tooth_tracker_period {s : State} {last : Nat} (dt : Nat) (cam : Bool) (running : s.tracker.sync ≠ .stopped)
    (lastTooth : s.tracker.lastTooth = some last) :
    ((s.advance dt).tooth cam).tracker =
      s.tracker.markJump ((s.tracker.arrived (s.now + dt)).afterPeriod (s.now + dt - last) cam) (s.now + dt)
        (s.advance dt).pointsOwed := by
  rw [State.tooth_tracker]
  exact Tracker.onTooth_period running lastTooth _ _ _

theorem State.advance_pointsOwed_iff (s : State) (dt : Nat) :
    (s.advance dt).pointsOwed = true ↔ PointsOwed s (s.now + dt) := (s.advance dt).pointsOwed_iff

/-- The speed of a pushed period under a wheel (R21). -/
theorem speedOf_wheel (w : WorkingCopy) {p : Nat} (pos : 0 < p) :
    speedOf (some w) p = min 65535 (60000000 * (5760 / w.teeth) / (5760 * p)) := by
  have nonzero : revSteps * p ≠ 0 := by
    unfold revSteps
    omega
  simp only [speedOf, quotient, if_neg nonzero]
  rfl

theorem Tracker.spacing_of_copy {t : Tracker} {w : WorkingCopy} (copy : t.copy = some w) : t.spacing = 5760 / w.teeth := by
  rw [Tracker.spacing, copy]
  rfl

theorem Tracker.gapDue_of_copy {t : Tracker} {w : WorkingCopy} (copy : t.copy = some w) :
    t.gapDue = decide (t.tooth = w.teeth - w.missing - 1) := by
  rw [Tracker.gapDue, copy]
  rfl

/-! ## Before sync (R7, R8, R9) -/

theorem Tracker.afterPeriod_seeking {t : Tracker} (seeking : t.sync = .seeking) (p : Nat) (cam : Bool) :
    t.afterPeriod p cam = if t.gapLike p then t.becomeCandidate cam else t.push p := by
  rw [Tracker.afterPeriod, seeking]

theorem Tracker.afterPeriod_candidate {t : Tracker} (candidate : t.sync = .candidate) (p : Nat) (cam : Bool) :
    t.afterPeriod p cam = t.candidateTooth (t.gapLike p) p cam := by
  rw [Tracker.afterPeriod, candidate]

/-- Phase is not known before sync, so that an arrival there marks no jump. -/
theorem Tracker.phaseKnown_false {t : Tracker} (unsynced : t.sync = .seeking ∨ t.sync = .candidate) : t.phaseKnown = false := by
  unfold Tracker.phaseKnown
  obtain h | h := unsynced <;> rw [h]

/-- Settles O4: each sync state before sync has its own equation for the tracker after the arrival. -/
theorem teethBeforeSync : Obligations.TeethBeforeSync := by
  unfold Obligations.TeethBeforeSync
  intro dt cam s
  refine ⟨fun stopped => ⟨_, exec_toothArrival dt cam s, ?_⟩, fun last seeking lastTooth => ⟨_, exec_toothArrival dt cam s, ?_⟩,
    fun last w candidate lastTooth copy => ⟨_, exec_toothArrival dt cam s, ?_⟩⟩
  · rw [State.tooth_tracker]
    exact Tracker.onTooth_stopped stopped _ _ _
  · rw [State.tooth_tracker_period dt cam (by simp [seeking]) lastTooth,
      Tracker.markJump_unknown (.inl (Tracker.phaseKnown_false (.inl seeking))),
      Tracker.afterPeriod_seeking (t := s.tracker.arrived (s.now + dt)) seeking]
    refine ⟨fun gap => ?_, fun normal => ?_, fun normal w copy pos => ?_⟩
    · rw [Tracker.arrived_gapLike, if_pos ((Tracker.gapLike_iff _ _).mpr gap)]
      rfl
    · rw [Tracker.arrived_gapLike, (Tracker.gapLike_false_iff _ _).mpr normal]
      rfl
    · rw [Tracker.arrived_gapLike, (Tracker.gapLike_false_iff _ _).mpr normal, ← speedOf_wheel w pos, ← copy]
      rfl
  · rw [State.tooth_tracker_period dt cam (by simp [candidate]) lastTooth,
      Tracker.markJump_unknown (.inl (Tracker.phaseKnown_false (.inr candidate))),
      Tracker.afterPeriod_candidate (t := s.tracker.arrived (s.now + dt)) candidate,
      Tracker.arrived_gapLike]
    have confirm : ((s.tracker.arrived (s.now + dt)).copy.elim 0 fun w => w.teeth - w.missing) = w.teeth - w.missing := by
      rw [Tracker.arrived_copy, copy]
      rfl
    unfold Tracker.candidateTooth
    dsimp only
    rw [confirm]
    refine ⟨fun normal => ?_, fun normal pos => ?_, fun gap confirms => ?_, fun gap moves => ?_⟩
    · rw [(Tracker.gapLike_false_iff _ _).mpr normal]
      rfl
    · rw [(Tracker.gapLike_false_iff _ _).mpr normal, ← speedOf_wheel w pos, ← copy]
      rfl
    · rw [if_pos ((Tracker.gapLike_iff _ _).mpr gap), Tracker.arrived_candidateCount, if_pos confirms]
      rfl
    · rw [if_pos ((Tracker.gapLike_iff _ _).mpr gap), Tracker.arrived_candidateCount, if_neg moves]
      simp [Tracker.becomeCandidate, Tracker.arrived, candidate]

/-! ## In sync (R10 to R16) -/

theorem Tracker.afterPeriod_synced {t : Tracker} (synced : Synced t) (p : Nat) (cam : Bool) :
    t.afterPeriod p cam = t.syncTooth (t.gapLike p) p cam := by
  unfold Tracker.afterPeriod
  obtain h | h | h := synced <;> rw [h]

theorem Synced.running {t : Tracker} (synced : Synced t) : t.sync ≠ .stopped := by
  obtain h | h | h := synced <;> simp [h]

theorem PhaseKnown.synced {t : Tracker} (known : PhaseKnown t) : Synced t := by
  obtain h | ⟨h, -⟩ := known
  · exact .inr (.inl h)
  · exact .inr (.inr h)

/-- The four things an arrival in sync can be (R10). -/
theorem Tracker.syncTooth_normal {t : Tracker} (noneDue : t.gapDue = false) (p : Nat) (cam : Bool) :
    t.syncTooth false p cam = { t.push p with tooth := t.tooth + 1 } := by
  simp [Tracker.syncTooth, noneDue]

theorem Tracker.syncTooth_error {t : Tracker} (noneDue : t.gapDue = false) (p : Nat) (cam : Bool) :
    t.syncTooth true p cam = t.becomeCandidate cam := by
  simp [Tracker.syncTooth, noneDue]

theorem Tracker.syncTooth_missed {t : Tracker} (due : t.gapDue = true) (p : Nat) (cam : Bool) :
    t.syncTooth false p cam = t.missedGap p := by
  simp [Tracker.syncTooth, due]

theorem Tracker.syncTooth_gap {t : Tracker} (due : t.gapDue = true) (p : Nat) (cam : Bool) :
    t.syncTooth true p cam = t.gapWhereDue cam := by
  simp [Tracker.syncTooth, due]

section
variable {s : State} {last : Nat} {w : WorkingCopy} (dt : Nat) (cam : Bool) (synced : Synced s.tracker)
  (lastTooth : s.tracker.lastTooth = some last) (copy : s.tracker.copy = some w)
include synced lastTooth

theorem State.tooth_tracker_synced :
    ((s.advance dt).tooth cam).tracker = s.tracker.markJump
      ((s.tracker.arrived (s.now + dt)).syncTooth (s.tracker.gapLike (s.now + dt - last)) (s.now + dt - last) cam) (s.now + dt)
      (s.advance dt).pointsOwed := by
  rw [State.tooth_tracker_period dt cam synced.running lastTooth,
    Tracker.afterPeriod_synced (t := s.tracker.arrived (s.now + dt)) synced]
  rfl

include copy

/-- A normal period with no gap due. -/
theorem State.tooth_tracker_normal (between : s.tracker.tooth ≠ w.teeth - w.missing - 1)
    (normal : ¬GapLike s.tracker (s.now + dt - last)) :
    ((s.advance dt).tooth cam).tracker = s.tracker.markJump
      { (s.tracker.arrived (s.now + dt)).push (s.now + dt - last) with tooth := s.tracker.tooth + 1 } (s.now + dt)
      (s.advance dt).pointsOwed := by
  rw [State.tooth_tracker_synced dt cam synced lastTooth, (Tracker.gapLike_false_iff _ _).mpr normal, Tracker.syncTooth_normal]
  · rfl
  · rw [Tracker.arrived_gapDue, Tracker.gapDue_of_copy copy]
    exact decide_eq_false between

/-- A tooth error. -/
theorem State.tooth_tracker_error (between : s.tracker.tooth ≠ w.teeth - w.missing - 1)
    (gap : GapLike s.tracker (s.now + dt - last)) :
    ((s.advance dt).tooth cam).tracker = (s.tracker.arrived (s.now + dt)).becomeCandidate cam := by
  rw [State.tooth_tracker_synced dt cam synced lastTooth, (Tracker.gapLike_iff _ _).mpr gap, Tracker.syncTooth_error]
  · exact Tracker.markJump_unknown (.inr rfl) _ _
  · rw [Tracker.arrived_gapDue, Tracker.gapDue_of_copy copy]
    exact decide_eq_false between

/-- A missed gap. -/
theorem State.tooth_tracker_missed (due : s.tracker.tooth = w.teeth - w.missing - 1)
    (normal : ¬GapLike s.tracker (s.now + dt - last)) :
    ((s.advance dt).tooth cam).tracker = s.tracker.markJump
      ((s.tracker.arrived (s.now + dt)).missedGap (s.now + dt - last)) (s.now + dt) (s.advance dt).pointsOwed := by
  rw [State.tooth_tracker_synced dt cam synced lastTooth, (Tracker.gapLike_false_iff _ _).mpr normal, Tracker.syncTooth_missed]
  rw [Tracker.arrived_gapDue, Tracker.gapDue_of_copy copy]
  exact decide_eq_true due

/-- A gap where it is due. -/
theorem State.tooth_tracker_gap (due : s.tracker.tooth = w.teeth - w.missing - 1)
    (gap : GapLike s.tracker (s.now + dt - last)) :
    ((s.advance dt).tooth cam).tracker = s.tracker.markJump
      ((s.tracker.arrived (s.now + dt)).gapWhereDue cam) (s.now + dt) (s.advance dt).pointsOwed := by
  rw [State.tooth_tracker_synced dt cam synced lastTooth, (Tracker.gapLike_iff _ _).mpr gap, Tracker.syncTooth_gap]
  rw [Tracker.arrived_gapDue, Tracker.gapDue_of_copy copy]
  exact decide_eq_true due

end

theorem Tracker.phaseKnown_eq_false {t : Tracker} (unknown : ¬PhaseKnown t) : t.phaseKnown = false :=
  Bool.eq_false_iff.mpr fun known => unknown ((Tracker.phaseKnown_iff _).mp known)

/-- Settles O5: with no gap due a normal period is pushed and the index steps, and a gap-like one makes a candidate. -/
theorem toothBetweenGaps : Obligations.ToothBetweenGaps := by
  unfold Obligations.ToothBetweenGaps
  intro dt cam s last w synced lastTooth copy between
  have normalCase := State.tooth_tracker_normal dt cam synced lastTooth copy between
  refine ⟨_, exec_toothArrival dt cam s, fun normal => ?_, fun normal pos => ?_, fun normal known => ?_,
    fun normal unknown => ?_, fun gap => ?_⟩
  · rw [normalCase normal, Tracker.markJump_frame]
    rfl
  · rw [normalCase normal, Tracker.markJump_frame, ← speedOf_wheel w pos, ← copy]
    rfl
  · rw [normalCase normal, ← Tracker.spacing_of_copy copy]
    exact State.jumpMarked known known rfl rfl (s.advance_pointsOwed_iff dt)
  · rw [normalCase normal, Tracker.markJump_unknown (.inl (Tracker.phaseKnown_eq_false unknown))]
    rfl
  · rw [State.tooth_tracker_error dt cam synced lastTooth copy between gap]
    rfl

end Sys2Proof.Machine
end

section
/-! SUPPORT. The gap where it is due: missed, chance to learn the phase, phase check. -/

namespace Sys2Proof.Machine

/-! ## A missed gap (R13, R14) -/

/-- The tracker after a missed gap, before it coasts or loses sync: the arriving tooth is taken as tooth 0. -/
def Tracker.afterMiss (t : Tracker) (p : Nat) : Tracker :=
  { t.push p with
    tooth := 0
    prevCam := none
    missedGaps := if t.sync = .coasting then t.missedGaps + 1 else 1 }

theorem Tracker.missedGap_lost {t : Tracker} {w : WorkingCopy} (copy : t.copy = some w) (p : Nat)
    (spent : w.coastLimit ≤ if t.sync = .coasting then t.missedGaps + 1 else 1) :
    t.missedGap p = (t.afterMiss p).becomeSeeking := by
  unfold Tracker.missedGap
  rw [copy]
  exact if_pos spent

/-- The tracker that coasts with its phase held, before the cycle is counted. -/
def Tracker.coastingInPhase (t : Tracker) (p : Nat) : Tracker :=
  { t.afterMiss p with sync := .coasting, phaseHeld := true, rev := !t.rev }

/-- Within the coast limit the tracker coasts, with the phase held where it was known. -/
theorem Tracker.missedGap_coasts {t : Tracker} {w : WorkingCopy} (copy : t.copy = some w) (p : Nat)
    (left : (if t.sync = .coasting then t.missedGaps + 1 else 1) < w.coastLimit) :
    t.missedGap p =
      if t.phaseKnown then (t.coastingInPhase p).countCycle else { t.afterMiss p with sync := .coasting, phaseHeld := false } := by
  unfold Tracker.missedGap
  rw [copy]
  exact if_neg (Nat.not_le.mpr left)

/-- With phase known the count of cycles steps where the revolution now held is the first (R20). -/
theorem Tracker.countCycle_known {t : Tracker} (known : t.phaseKnown = true) :
    t.countCycle = { t with
      cycles := if t.rev then t.cycles else t.cycles + 1
      marks := { t.marks with laps := if t.rev then t.marks.laps else t.marks.laps + 1 } } := by
  unfold Tracker.countCycle
  rw [known]
  cases rev : t.rev
  · simp [Tracker.passZero, rev]
  · simp [← rev]

theorem Tracker.countCycle_unknown {t : Tracker} (unknown : t.phaseKnown = false) : t.countCycle = t := by
  unfold Tracker.countCycle
  rw [unknown]
  rfl

/-- The marks after tooth 0 of a revolution with phase known before and after: the angle is that of the revolution's begin, and
a lap is counted where the revolution is the first. -/
theorem State.jumpMarked_countCycle {s : State} {u : Tracker} {now : Nat} {owed : Bool} (before : PhaseKnown s.tracker)
    (after : u.phaseKnown = true) (lastTooth : u.lastTooth = some now) (marks : u.marks = s.tracker.marks)
    (zero : u.tooth = 0) (owes : owed = true ↔ PointsOwed s now) :
    JumpMarked s now (if u.rev then s.tracker.marks.laps else s.tracker.marks.laps + 1) (if u.rev then 5760 else 0)
      (s.tracker.markJump u.countCycle now owed).marks := by
  rw [Tracker.countCycle_known after, ← marks]
  have marked := State.jumpMarked (laps := if u.rev then u.marks.laps else u.marks.laps + 1) (u := { u with
      cycles := if u.rev then u.cycles else u.cycles + 1
      marks := { u.marks with laps := if u.rev then u.marks.laps else u.marks.laps + 1 } })
    before ((Tracker.phaseKnown_iff _).mp after) lastTooth (by rw [← marks]) owes
  simpa only [zero, Nat.zero_mul, Nat.add_zero] using marked

/-- Settles O6: a missed gap is counted; at the limit sync is lost, and below it the tracker coasts. -/
theorem missedGapCoasts : Obligations.MissedGapCoasts := by
  unfold Obligations.MissedGapCoasts
  intro dt cam s last w synced lastTooth copy due p normal missed
  have tracker := State.tooth_tracker_missed dt cam synced lastTooth copy due normal
  have lost := Tracker.missedGap_lost (t := s.tracker.arrived (s.now + dt)) copy p
  have coasts := Tracker.missedGap_coasts (t := s.tracker.arrived (s.now + dt)) copy p
  have within : missed < w.coastLimit ∨ w.coastLimit ≤ missed := Nat.lt_or_ge _ _
  refine ⟨_, exec_toothArrival dt cam s, fun pos => ?_, fun spent => ?_, fun left unknown => ?_, fun left known => ?_⟩
  · rw [tracker, Tracker.markJump_frame, ← speedOf_wheel w pos, ← copy]
    obtain left | spent := within
    · rw [coasts left]
      split
      · rw [Tracker.countCycle_known (by rfl)]
        rfl
      · rfl
    · rw [lost spent]
      rfl
  · rw [tracker, lost spent, Tracker.markJump_unknown (.inr rfl)]
    rfl
  · rw [tracker, coasts left, Tracker.markJump_unknown (.inl (Tracker.phaseKnown_eq_false unknown)),
      Tracker.arrived_phaseKnown, Tracker.phaseKnown_eq_false unknown]
    rfl
  · rw [tracker, coasts left, Tracker.arrived_phaseKnown, (Tracker.phaseKnown_iff _).mpr known, if_pos rfl]
    have marked := State.jumpMarked_countCycle (u := (s.tracker.arrived (s.now + dt)).coastingInPhase p) known rfl rfl rfl rfl
      (s.advance_pointsOwed_iff dt)
    refine ⟨?_, ?_⟩
    · rw [Tracker.markJump_frame, Tracker.countCycle_known (by rfl)]
      cases rev : s.tracker.rev <;>
        simp [Tracker.coastingInPhase, Tracker.afterMiss, Tracker.push, Tracker.arrived, rev, missed]
    · change JumpMarked s (s.now + dt) (if !s.tracker.rev then _ else _) (if !s.tracker.rev then _ else _) _ at marked
      revert marked
      cases s.tracker.rev <;> exact id

/-! ## The gap where it is due (R12, R14, R16) -/

theorem Tracker.learnPhase_changed {t : Tracker} {cam : Bool} (changed : t.prevCam = some (!cam)) :
    t.learnPhase cam = t.gainPhase cam := by
  unfold Tracker.learnPhase
  rw [changed]
  cases cam <;> rfl

theorem Tracker.learnPhase_unchanged {t : Tracker} {cam : Bool} (unchanged : t.prevCam ≠ some (!cam)) :
    t.learnPhase cam = { t with prevCam := some cam } := by
  unfold Tracker.learnPhase
  cases before : t.prevCam with
  | none => rfl
  | some b => exact if_pos (by rw [before] at unchanged; cases b <;> cases cam <;> simp_all)

/-- The tracker at tooth 0 in CRANK_SYNC, before the chance to learn the phase (R12, R14). -/
def Tracker.crankSynced (t : Tracker) : Tracker :=
  { t with
    sync := .crankSync
    missedGaps := if t.sync = .coasting then 0 else t.missedGaps
    tooth := 0 }

theorem Tracker.gapWhereDue_phaseless {t : Tracker} (phaseless : t.sync = .crankSync ∨ (t.sync = .coasting ∧ t.phaseHeld = false))
    (cam : Bool) : t.gapWhereDue cam = t.crankSynced.learnPhase cam := by
  cases t
  obtain rfl | ⟨rfl, rfl⟩ := phaseless
  · rfl
  · rfl

/-- Settles O7: without phase the gap is the chance to learn it, taken where the cam level changed. -/
theorem gapGainsPhase : Obligations.GapGainsPhase := by
  unfold Obligations.GapGainsPhase
  intro dt cam s last w phaseless lastTooth copy due gap missed angle
  have synced : Synced s.tracker := phaseless.elim .inl fun coasts => .inr (.inr coasts.1)
  have unknown : s.tracker.phaseKnown = false := by
    unfold Tracker.phaseKnown
    obtain crank | ⟨coasting, held⟩ := phaseless
    · rw [crank]
    · rw [coasting, held]
  have tracker := State.tooth_tracker_gap dt cam synced lastTooth copy due gap
  rw [Tracker.markJump_unknown (.inl unknown),
    Tracker.gapWhereDue_phaseless (t := s.tracker.arrived (s.now + dt)) phaseless] at tracker
  refine ⟨_, exec_toothArrival dt cam s, fun changed => ?_, fun unchanged => ?_⟩
  · have begins : bit (cam != w.cam0) * revSteps = angle := by
      cases cam <;> cases first : w.cam0 <;> simp [angle, bit, revSteps, first]
    rw [tracker, Tracker.learnPhase_changed (t := (s.tracker.arrived (s.now + dt)).crankSynced) changed, ← begins]
    unfold Tracker.gainPhase
    simp only [Tracker.crankSynced, Tracker.arrived, copy]
    rfl
  · rw [tracker, Tracker.learnPhase_unchanged (t := (s.tracker.arrived (s.now + dt)).crankSynced) unchanged]
    rfl

/-- The tracker at tooth 0 of the other revolution with phase known, before the phase check (R14, R16). -/
def Tracker.turned (t : Tracker) : Tracker :=
  { t.flip with
    sync := .fullSync
    phaseHeld := if t.sync = .coasting then false else t.phaseHeld
    missedGaps := if t.sync = .coasting then 0 else t.missedGaps }

theorem Tracker.gapWhereDue_phased {t : Tracker} (known : PhaseKnown t) (cam : Bool) :
    t.gapWhereDue cam = (t.turned.checkPhase cam).countCycle := by
  cases t
  obtain rfl | ⟨rfl, rfl⟩ := known
  · rfl
  · rfl

/-- The phase check loses phase at the limit of mismatches in a row (R16). -/
theorem Tracker.checkPhase_drops {t : Tracker} {w : WorkingCopy} {cam : Bool} (copy : t.copy = some w)
    (differs : cam ≠ (t.rev != w.cam0)) (limit : w.phaseMissLimit ≤ t.phaseMisses + 1) :
    t.checkPhase cam = { t with sync := .crankSync, phaseMisses := t.phaseMisses + 1, prevCam := some cam } := by
  unfold Tracker.checkPhase Tracker.camMismatch Tracker.expectedCam
  rw [copy]
  exact (if_pos (bne_iff_ne.mpr differs)).trans (if_pos limit)

theorem Tracker.checkPhase_stays {t : Tracker} {w : WorkingCopy} {cam : Bool} (copy : t.copy = some w)
    (stays : ¬(cam ≠ (t.rev != w.cam0) ∧ w.phaseMissLimit ≤ t.phaseMisses + 1)) :
    t.checkPhase cam = { t with
      phaseMisses := if cam = (t.rev != w.cam0) then 0 else t.phaseMisses + 1
      prevCam := some cam } := by
  unfold Tracker.checkPhase Tracker.camMismatch Tracker.expectedCam
  rw [copy]
  by_cases fits : cam = (t.rev != w.cam0)
  · simp [← fits]
  · have limit : ¬w.phaseMissLimit ≤ t.phaseMisses + 1 := fun reached => stays ⟨fits, reached⟩
    simp [fits, limit]

/-- Settles O8: the gap with phase known turns the revolution, checks the cam level and counts the cycle where phase stays. -/
theorem phaseCheckedAtGap : Obligations.PhaseCheckedAtGap := by
  unfold Obligations.PhaseCheckedAtGap
  intro dt cam s last w known lastTooth copy due gap rev expected misses dropped
  have tracker := State.tooth_tracker_gap dt cam known.synced lastTooth copy due gap
  rw [Tracker.gapWhereDue_phased (t := s.tracker.arrived (s.now + dt)) known] at tracker
  have counts : cam ≠ expected → misses = s.tracker.phaseMisses + 1 := fun differs => if_neg differs
  refine ⟨_, exec_toothArrival dt cam s, ?_⟩
  by_cases drops : dropped
  · obtain ⟨differs, limit⟩ := id drops
    rw [counts differs] at limit
    rw [Tracker.checkPhase_drops (t := (s.tracker.arrived (s.now + dt)).turned) copy differs limit,
      Tracker.countCycle_unknown (by rfl), Tracker.markJump_unknown (.inr rfl)] at tracker
    refine ⟨?_, fun _ => by rw [tracker]; rfl, fun stays => absurd drops stays⟩
    have uncounted : (if rev = false ∧ ¬dropped then s.tracker.cycles + 1 else s.tracker.cycles) = s.tracker.cycles :=
      if_neg fun h => h.2 drops
    rw [tracker, uncounted, if_pos drops, counts differs]
    rfl
  · have stays : ¬(cam ≠ expected ∧ w.phaseMissLimit ≤ s.tracker.phaseMisses + 1) :=
      fun h => drops ⟨h.1, (counts h.1).symm ▸ h.2⟩
    rw [Tracker.checkPhase_stays (t := (s.tracker.arrived (s.now + dt)).turned) copy stays] at tracker
    refine ⟨?_, fun h => absurd h drops, fun _ => ?_⟩
    · rw [tracker, if_neg drops, Tracker.markJump_frame, Tracker.countCycle_known (by rfl)]
      simp only [drops, not_false_eq_true, and_true]
      cases turned : s.tracker.rev <;> simp [Tracker.turned, Tracker.flip, Tracker.arrived, turned, rev, misses, expected]
    · rw [tracker]
      exact State.jumpMarked_countCycle known rfl rfl rfl rfl (s.advance_pointsOwed_iff dt)

end Sys2Proof.Machine
end

section
/-! SUPPORT. Interpolation, the stall, the arrival's notices and the flags it raises. -/

namespace Sys2Proof.Machine

/-! ## Interpolation (R18, R19) -/

theorem Tracker.span_of_copy {t : Tracker} {w : WorkingCopy} (copy : t.copy = some w) :
    t.span = if t.tooth = w.teeth - w.missing - 1 then (w.missing + 1) * (5760 / w.teeth) else 5760 / w.teeth := by
  unfold Tracker.span
  rw [Tracker.gapDue_of_copy copy, Tracker.spacing_of_copy copy, copy]
  simp

theorem Tracker.engineAngle_eq (t : Tracker) (now : Nat) :
    t.engineAngle now = (if t.rev then 5760 else 0) + t.tooth * t.spacing + t.interpolated now := by
  unfold Tracker.engineAngle Tracker.revAngle revSteps
  cases t.rev <;> simp [bit, Nat.add_assoc]

theorem Tracker.interpolated_at_tooth {t : Tracker} {last : Nat} (lastTooth : t.lastTooth = some last) :
    t.interpolated last = 0 := by
  simp [Tracker.interpolated, Tracker.sinceTooth, lastTooth]

theorem Tracker.interpolated_lt_span {t : Tracker} (pos : 0 < t.span) (now : Nat) : t.interpolated now < t.span := by
  unfold Tracker.interpolated
  split <;> omega

/-- Past the tooth the angle runs at the last normal period, clamped (R19). -/
theorem Tracker.interpolated_past_tooth {t : Tracker} {last now p : Nat} {rest : List Nat} (lastTooth : t.lastTooth = some last)
    (window : t.window = p :: rest) (pos : 0 < p) (past : last < now) :
    t.interpolated now = min (t.spacing * (now - last) / p) (t.span - 1) := by
  have since : t.sinceTooth now = now - last := by rw [Tracker.sinceTooth, lastTooth, Option.getD_some]
  have period : t.lastPeriod = p := by rw [Tracker.lastPeriod, window, List.headD_cons]
  unfold Tracker.interpolated
  rw [since, period, if_neg (by omega), quotient, if_neg (by omega)]

/-- The teeth before the one held and the steps to the next one fit the revolution: M missing teeth fill the gap. -/
theorem tooth_and_span_le {teeth missing tooth : Nat} (fits : missing < teeth) (divides : 5760 % teeth = 0)
    (index : tooth ≤ teeth - missing - 1) :
    tooth * (5760 / teeth) + (if tooth = teeth - missing - 1 then (missing + 1) * (5760 / teeth) else 5760 / teeth) ≤ 5760 := by
  have whole : teeth * (5760 / teeth) = 5760 := Nat.mul_div_cancel' (Nat.dvd_of_mod_eq_zero divides)
  generalize 5760 / teeth = sp at whole
  have bound : tooth * sp + (if tooth = teeth - missing - 1 then (missing + 1) * sp else sp) ≤ teeth * sp := by
    split
    · rw [← Nat.add_mul]
      exact Nat.mul_le_mul_right sp (by omega)
    · rw [← Nat.succ_mul]
      exact Nat.mul_le_mul_right sp (by omega)
  omega

/-- Settles O9: the interpolated part is clamped one step short of the span, and tooth and span fit the revolution. -/
theorem interpolationStaysShortOfNextTooth : Obligations.InterpolationStaysShortOfNextTooth := by
  unfold Obligations.InterpolationStaysShortOfNextTooth
  intro t w now last copy teeth fits divides index lastTooth sp base span
  have spacing : t.spacing = sp := Tracker.spacing_of_copy copy
  have spans : t.span = span := Tracker.span_of_copy copy
  have spPos : 0 < sp := Nat.div_pos (Nat.le_of_dvd (by omega) (Nat.dvd_of_mod_eq_zero divides)) teeth
  have spanPos : 0 < span := by
    change 0 < if _ then _ else _
    split
    · exact Nat.mul_pos (by omega) spPos
    · exact spPos
  have inRevolution : t.tooth * sp + span ≤ 5760 := tooth_and_span_le fits divides index
  have angle (moment : Nat) : t.engineAngle moment = base + t.tooth * sp + t.interpolated moment := by
    rw [Tracker.engineAngle_eq, spacing]
  have short : t.interpolated now < span := spans ▸ Tracker.interpolated_lt_span (spans ▸ spanPos) now
  have baseLe : base ≤ 5760 := by
    change (if t.rev then 5760 else 0) ≤ 5760
    split <;> omega
  refine ⟨?_, by omega, ?_, ?_, fun p rest window pos past => ?_⟩
  · rw [angle]
    omega
  · rw [angle]
    omega
  · rw [angle, Tracker.interpolated_at_tooth lastTooth, Nat.add_zero]
  · rw [angle, Tracker.interpolated_past_tooth lastTooth window pos past, spacing, spans]

/-! ## A change of sync state -/

/-- `trackerBecomes` changes the tracker, the notices and the flags. -/
theorem State.trackerBecomes_frame (s : State) (new : Tracker) :
    s.trackerBecomes new = { s with
      tracker := new
      syncToCycle := (s.trackerBecomes new).syncToCycle
      syncToTable := (s.trackerBecomes new).syncToTable
      ports := (s.trackerBecomes new).ports } := by
  apply State.eq_of <;> simp

theorem State.trackerBecomes_noticed {s : State} {new : Tracker} (change : s.tracker.sync ≠ new.sync) :
    Noticed s (s.trackerBecomes new) s.tracker.sync new.sync (PhaseKnown s.tracker) (PhaseKnown new) := by
  obtain ⟨toCycle, toTable⟩ := State.trackerBecomes_notices change
  exact ⟨_, toCycle, toTable, rfl, rfl, Tracker.phaseKnown_iff _, Tracker.phaseKnown_iff _⟩

theorem State.trackerBecomes_unnoticed {s : State} {new : Tracker} (same : s.tracker.sync = new.sync) :
    (s.trackerBecomes new).syncToCycle = s.syncToCycle ∧ (s.trackerBecomes new).syncToTable = s.syncToTable := by
  rw [State.trackerBecomes_same same]
  exact ⟨rfl, rfl⟩

/-- The flags of a change of the tracker from `old` to `new` (R25). -/
def changeFlags (old new : Tracker) : Port → Flag → Bool := fun _ f =>
  (decide (f = .syncChange) && decide (new.sync ≠ old.sync)) ||
    (decide (f = .syncLost) && (decide (new.sync ≠ old.sync) && lostSync old new))

theorem changeFlags_same {old new : Tracker} (same : new.sync = old.sync) (p : Port) (f : Flag) :
    changeFlags old new p f = false := by
  simp [changeFlags, same]

theorem Synced.congr {t u : Tracker} (same : u.sync = t.sync) (synced : Synced t) : Synced u := by rwa [Synced, same]

/-- A change to a tracker without sync loses what sync there was. -/
theorem changeFlags_unsynced_iff {old new : Tracker} (unsynced : ¬Synced new) (p : Port) (f : Flag) :
    changeFlags old new p f = true ↔ (f = .syncChange ∧ new.sync ≠ old.sync) ∨ (f = .syncLost ∧ Synced old) := by
  have loses : lostSync old new = true ↔ Synced old := by
    rw [lostSync_iff]
    exact ⟨fun lost => lost.elim And.left fun phase => phase.1.synced, fun held => .inl ⟨held, unsynced⟩⟩
  have changes : Synced old → new.sync ≠ old.sync := fun held same => unsynced (held.congr same)
  simp only [changeFlags, Bool.or_eq_true, Bool.and_eq_true, decide_eq_true_eq, loses]
  exact or_congr_right (and_congr_right fun _ => and_iff_right_of_imp changes)

/-! ## The stall (R17) -/

theorem exec_stallExpiry (dt : Nat) (s : State) : exec (.stallExpiry dt) s = .next (s.advance dt).stallIfDue := rfl

theorem Tracker.stallDue_iff {t : Tracker} {last : Nat} (stallOn : t.stallOn = true) (lastTooth : t.lastTooth = some last)
    (now : Nat) : t.stallDue now = true ↔ last + t.stallTimeout ≤ now := by
  simp [Tracker.stallDue, stallOn, lastTooth]

theorem Tracker.stop_unsynced (t : Tracker) : ¬Synced t.stop := by simp [Synced, Tracker.stop]

theorem Tracker.stop_phaseless (t : Tracker) : ¬PhaseKnown t.stop := by simp [PhaseKnown, Tracker.stop]

/-- Settles O10: a stall that has come stops the tracker, and the change is reported; before its time nothing happens. -/
theorem stallStopsTracker : Obligations.StallStopsTracker := by
  unfold Obligations.StallStopsTracker
  intro dt s last stallOn lastTooth timeout
  have comes : s.tracker.stallDue (s.now + dt) = true ↔ last + timeout ≤ s.now + dt := by
    have inForce : s.tracker.stallTimeout = timeout := by
      unfold Tracker.stallTimeout timeout
      cases s.tracker.copy <;> rfl
    rw [Tracker.stallDue_iff stallOn lastTooth, inForce]
  rw [exec_stallExpiry]
  refine ⟨fun due => ?_, fun early => ?_⟩
  · have stalls : (s.advance dt).stallIfDue = (s.advance dt).trackerBecomes s.tracker.stop := if_pos (comes.mpr due)
    rw [stalls]
    refine ⟨_, _, rfl, State.trackerBecomes_tracker _ _, ?_, fun runs => ?_, fun stopped => ?_, State.trackerBecomes_raised _ _,
      fun p f => ?_⟩
    · rw [State.trackerBecomes_tracker]
      exact State.trackerBecomes_frame _ _
    · obtain ⟨n, toCycle, toTable, old, new, before, after⟩ :=
        State.trackerBecomes_noticed (s := s.advance dt) (new := s.tracker.stop) runs
      exact ⟨n, toCycle, toTable, old, new, before, after.trans (iff_false_intro s.tracker.stop_phaseless)⟩
    · exact State.trackerBecomes_unnoticed (s := s.advance dt) stopped
    · rw [← show s.tracker.stop.sync ≠ s.tracker.sync ↔ s.tracker.sync ≠ .stopped from ne_comm]
      exact changeFlags_unsynced_iff s.tracker.stop_unsynced p f
  · have waits : (s.advance dt).stallIfDue = s.advance dt := if_neg fun due => absurd (comes.mp due) (by omega)
    rw [waits]
    rfl

/-! ## The notice to the cycle unit (R26, R178) -/

theorem exec_toothArrivalNotice (dt : Nat) (s : State) :
    exec (.toothArrivalNotice dt) s = .next (s.advance dt).takeToothNotice := rfl

theorem State.takeToothNotice_zero {s : State} (none : s.toothNotices = 0) : s.takeToothNotice = s := by
  unfold State.takeToothNotice
  rw [none]

/-- Taking a notice sends a cut of the service pulse that is DRIVING. -/
theorem State.takeToothNotice_driving {s : State} {v : ServicePulse} (waits : 0 < s.toothNotices)
    (inProgress : s.service.inProgress = some v) (driving : v.phase = .driving) :
    s.takeToothNotice = { s with
      toothNotices := s.toothNotices - 1
      lanes := s.lanes.set v.cyl ((s.lane v.cyl).send [.cut (s.plan.bankOf v.cyl) (.service v.cyl)]) } := by
  obtain ⟨n, count⟩ := Nat.exists_eq_add_one_of_ne_zero (Nat.ne_zero_of_lt waits)
  unfold State.takeToothNotice
  rw [count]
  simp only [inProgress, driving]
  rfl

theorem State.takeToothNotice_not_driving {s : State} (waits : 0 < s.toothNotices)
    (releasing : ∀ v, s.service.inProgress = some v → v.phase = .releasing) :
    s.takeToothNotice = { s with toothNotices := s.toothNotices - 1 } := by
  obtain ⟨n, count⟩ := Nat.exists_eq_add_one_of_ne_zero (Nat.ne_zero_of_lt waits)
  unfold State.takeToothNotice
  rw [count]
  cases inProgress : s.service.inProgress with
  | none => simp [inProgress]
  | some v => simp [inProgress, releasing v inProgress]

/-- Settles O11: an arrival leaves one more notice, and the taking of a notice by the phase of the service pulse. -/
theorem everyToothArrivalIsHandedOver : Obligations.EveryToothArrivalIsHandedOver := by
  unfold Obligations.EveryToothArrivalIsHandedOver
  refine ⟨fun dt cam s => ⟨_, exec_toothArrival dt cam s, State.tooth_frame _ cam⟩, fun dt s v waits inProgress driving => ?_,
    fun dt s waits releasing => ?_, fun dt s none => ?_⟩
  · rw [exec_toothArrivalNotice, State.takeToothNotice_driving (s := s.advance dt) waits inProgress driving]
    rfl
  · rw [exec_toothArrivalNotice, State.takeToothNotice_not_driving (s := s.advance dt) waits releasing]
    rfl
  · rw [exec_toothArrivalNotice, State.takeToothNotice_zero (s := s.advance dt) none]
    rfl

/-! ## The flags of an arrival (R15, R16, R25) -/

theorem Tracker.seesGap_iff (t : Tracker) (now : Nat) :
    t.seesGap now = true ↔ ∃ last, t.lastTooth = some last ∧ GapLike t (now - last) := by
  unfold Tracker.seesGap Tracker.period
  cases t.lastTooth <;> simp [Tracker.gapLike_iff]

theorem Tracker.isToothError_iff (t : Tracker) (now : Nat) : t.isToothError now = true ↔
    Synced t ∧ (∃ last, t.lastTooth = some last ∧ GapLike t (now - last)) ∧
      ¬∃ w, t.copy = some w ∧ t.tooth = w.teeth - w.missing - 1 := by
  rw [← Tracker.indexHeld_iff, ← Tracker.seesGap_iff, ← Tracker.gapDue_iff]
  simp [Tracker.isToothError, and_assoc]

theorem Tracker.phaseError_iff {t : Tracker} {w : WorkingCopy} (copy : t.copy = some w) (cam : Bool) :
    t.phaseError cam = true ↔ PhaseKnown t ∧ cam ≠ ((!t.rev) != w.cam0) := by
  simp [Tracker.phaseError, Tracker.camMismatch, Tracker.expectedCam, Tracker.flip, copy, Tracker.phaseKnown_iff]

theorem Tracker.isPhaseError_iff (t : Tracker) (now : Nat) (cam : Bool) : t.isPhaseError now cam = true ↔
    PhaseKnown t ∧ (∃ last, t.lastTooth = some last ∧ GapLike t (now - last)) ∧
      (∃ w, t.copy = some w ∧ t.tooth = w.teeth - w.missing - 1) ∧
      ∃ w, t.copy = some w ∧ cam ≠ ((!t.rev) != w.cam0) := by
  simp only [Tracker.isPhaseError, Bool.and_eq_true, Tracker.phaseKnown_iff, Tracker.seesGap_iff, and_assoc]
  refine and_congr_right fun known => and_congr_right fun ⟨_, _, w, copy, _⟩ => ?_
  rw [Tracker.gapDue_iff, Tracker.phaseError_iff copy]
  simp [copy, known]

/-- The flags of an arrival that takes the tracker from `old` to `new`. -/
def toothFlags (old new : Tracker) (now : Nat) (cam : Bool) : Port → Flag → Bool := fun _ f =>
  (decide (f = .syncChange) && decide (new.sync ≠ old.sync)) ||
    (decide (f = .syncLost) && (decide (new.sync ≠ old.sync) && lostSync old new)) ||
    (decide (f = .toothError) && old.isToothError now) || (decide (f = .phaseError) && old.isPhaseError now cam)

theorem State.tooth_raised (s : State) (cam : Bool) :
    Raised s (s.tooth cam) (toothFlags s.tracker (s.tooth cam).tracker s.now cam) := by
  rw [State.tooth_tracker]
  refine raised_congr ((raised_of_ports (t := { s with camIn := cam }) rfl).trans
    ((State.trackerBecomes_raised { s with camIn := cam } (s.tracker.onTooth s.now cam s.pointsOwed)).trans
      ((raised_raiseBothIf _ (s.tracker.isToothError s.now) .toothError).trans
        ((raised_raiseBothIf _ (s.tracker.isPhaseError s.now cam) .phaseError).trans (raised_of_ports rfl))))) fun _ f => ?_
  simp only [noFlags, flagBoth, toothFlags, Bool.false_or, Bool.or_false, Bool.or_assoc, Bool.and_comm]

theorem State.tooth_notices (s : State) (cam : Bool) :
    (s.tooth cam).syncToCycle = (s.trackerBecomes (s.tooth cam).tracker).syncToCycle ∧
    (s.tooth cam).syncToTable = (s.trackerBecomes (s.tooth cam).tracker).syncToTable := by
  rw [State.tooth_tracker]
  simp only [State.tooth, State.trackerBecomes]
  split <;> simp_all

/-- Settles O12: which flags an arrival raises, and that a change of sync state alone sends a notice. -/
theorem toothArrivalReports : Obligations.ToothArrivalReports := by
  unfold Obligations.ToothArrivalReports
  intro dt cam s
  obtain ⟨toCycle, toTable⟩ := State.tooth_notices (s.advance dt) cam
  refine ⟨_, _, exec_toothArrival dt cam s, State.tooth_raised (s.advance dt) cam, fun _ => ?_, fun _ => ?_, fun _ => ?_, fun _ => ?_,
    fun _ f raised => ?_, fun same => ?_, fun change => ?_⟩
  · simp [toothFlags]
  · simp [toothFlags, lostSync_iff]
  · simp [toothFlags, Tracker.isToothError_iff]
  · simp [toothFlags, Tracker.isPhaseError_iff]
  · cases f <;> simp [toothFlags] at raised ⊢
  · rw [toCycle, toTable]
    exact State.trackerBecomes_unnoticed (s := s.advance dt) same.symm
  · obtain ⟨n, h1, h2, h3⟩ := State.trackerBecomes_noticed (s := s.advance dt) (Ne.symm change)
    exact ⟨n, toCycle.trans h1, toTable.trans h2, h3⟩

end Sys2Proof.Machine
end

section
/-! SUPPORT. Writing and reading the plan's groups: the ranges of each group, and what each request answers. -/

namespace Sys2Proof.Machine

/-! ## The ranges as propositions (R30 to R36) -/

theorem EnginePlan.inRange_iff (e : EnginePlan) : e.inRange = true ↔
    1 ≤ e.count ∧ e.count ≤ 8 ∧ 12 ≤ e.teeth ∧ e.teeth ≤ 72 ∧ 5760 % e.teeth = 0 ∧ 1 ≤ e.missing ∧ e.missing ≤ 3 ∧
      10 ≤ e.gapRatio ∧ e.gapRatio ≤ 32 := by
  simp only [EnginePlan.inRange, Bool.and_eq_true, within_iff, decide_eq_true_eq, and_assoc]

theorem TimingPlan.inRange_iff (g : TimingPlan) : g.inRange = true ↔
    2880 ≤ g.advance ∧ g.advance ≤ 5760 ∧ 16 ≤ g.minSeparation ∧ g.minSeparation ≤ 480 ∧ 60 ≤ g.minWidth ∧ g.minWidth ≤ 500 ∧
      50 ≤ g.minDwell ∧ g.minDwell ≤ 2000 := by
  simp only [TimingPlan.inRange, Bool.and_eq_true, within_iff, and_assoc]

theorem CylinderPlan.inRange_iff (g : CylinderPlan) : g.inRange = true ↔ g.tdc ≤ 11519 ∧ 1 ≤ g.endLimit ∧ g.endLimit ≤ 8640 := by
  simp [CylinderPlan.inRange, within_iff]

theorem ProfilePlan.inRange_iff (g : ProfilePlan) : g.inRange = true ↔
    50 ≤ g.peak ∧ g.peak ≤ 300 ∧ 20 ≤ g.peakLimit ∧ g.peakLimit ≤ 1000 ∧ g.minPeak ≤ g.peakLimit - 1 ∧ 10 ≤ g.hold ∧ g.hold ≤ 150 ∧
      g.hold < g.peak ∧ 5 ≤ g.holdLoss ∧ g.holdLoss ≤ 200 ∧ 10 ≤ g.releaseLimit ∧ g.releaseLimit ≤ 500 ∧ g.peak < g.trip ∧
      g.trip ≤ 400 := by
  simp only [ProfilePlan.inRange, Bool.and_eq_true, within_iff, decide_eq_true_eq]
  omega

/-- Freshness limits are fields of eight bits, so that their upper bound always holds (R36). -/
theorem limitsOf_inRange_iff (ps : Params) : (limitsOf ps).inRange = true ↔
    1 ≤ field ps 0 4 ∧ field ps 0 4 ≤ 8 ∧ 1 ≤ field ps 4 4 ∧ field ps 4 4 ≤ 8 ∧ 50 ≤ field ps 8 10 ∧ field ps 8 10 ≤ 1000 ∧
      1 ≤ field ps 18 4 := by
  have isolation := field_lt ps 18 4
  have freshA := field_lt ps 22 8
  have freshB := field_lt ps 30 8
  simp only [LimitsPlan.inRange, limitsOf, Bool.and_eq_true, within_iff]
  omega

/-! ## The requests that write (R29) -/

/-- Settles O14: each group's ranges as a proposition decide what its request answers. -/
theorem planSetGroupsWithoutIndex : Obligations.PlanSetGroupsWithoutIndex := by
  unfold Obligations.PlanSetGroupsWithoutIndex
  intro dt s p r rest next f ok refused
  refine ⟨fun code => ?_, fun code => ?_, fun code => ?_⟩
  · rw [exec_planSetEngine_eq, State.serve_of_nextIs next dt (by simp [code])]
    exact congrArg _ (planWrite_answer (EnginePlan.inRange_iff _))
  · rw [exec_planSetTiming_eq, State.serve_of_nextIs next dt (by simp [code])]
    exact congrArg _ (planWrite_answer (TimingPlan.inRange_iff _))
  · rw [exec_planSetLimits_eq, State.serve_of_nextIs next dt (by simp [code])]
    exact congrArg _ (planWrite_answer (limitsOf_inRange_iff _))

/-- Settles O15: an index in range names the group written, and one outside it is refused. -/
theorem planSetGroupsWithIndex : Obligations.PlanSetGroupsWithIndex := by
  unfold Obligations.PlanSetGroupsWithIndex
  intro dt s p r rest next f ok refused
  refine ⟨fun code => ?_, fun code => ?_, fun code b index => ?_, fun code i index => ?_⟩
  · rw [exec_planSetCylinder_eq, State.serve_of_nextIs next dt (by simp [code])]
    unfold planSetCylinder
    refine ⟨fun c index => ?_, fun outside => ?_⟩
    · rw [cylOf_eq_some.mpr index.symm]
      exact congrArg _ (planWrite_answer (CylinderPlan.inRange_iff _))
    · rw [cylOf_eq_none outside]
      exact congrArg _ planWrite_none_answer
  · rw [exec_planSetKind_eq, State.serve_of_nextIs next dt (by simp [code])]
    unfold planSetKind
    refine ⟨fun k index => ?_, fun outside => ?_⟩
    · rw [kindOf_eq_some.mpr index.symm]
      exact congrArg _ (planWrite_answer (by simp [within_iff, kindGroupOf, f]))
    · rw [kindOf_eq_none outside]
      exact congrArg _ planWrite_none_answer
  · rw [exec_planSetBank_eq, State.serve_of_nextIs next dt (by simp [code])]
    have named : fourOf (f 0 2) = b := by rw [index, fourOf_num]
    rw [← named]
    exact congrArg _ (planWrite_answer (by simp [within_iff, bankGroupOf, f]))
  · rw [exec_planSetProfile_eq, State.serve_of_nextIs next dt (by simp [code])]
    have named : fourOf (f 0 2) = i := by rw [index, fourOf_num]
    rw [← named]
    exact congrArg _ (planWrite_answer (ProfilePlan.inRange_iff _))

/-! ## The request that reads (R37) -/

section
variable {s : State} {dt : Nat} {p : Port} {r : Request} {rest : List Request} (next : s.NextIs p r rest) (code : r.code = 0x08#8)
include next code

theorem exec_planRead_some {d : Data}
    (read : s.plan.read (field r.params 0 3) (field r.params 3 4) (field r.params 7 1) = some d) :
    exec (.planRead dt) s = .next ((s.taken dt p rest).replied p r .ok d) := by
  rw [exec_planRead_eq, State.serve_of_nextIs next dt (by simp [code])]
  simp [planRead, read, served]

theorem exec_planRead_none (read : s.plan.read (field r.params 0 3) (field r.params 3 4) (field r.params 7 1) = none) :
    exec (.planRead dt) s = .next ((s.taken dt p rest).replied p r .range 0) := by
  rw [exec_planRead_eq, State.serve_of_nextIs next dt (by simp [code])]
  simp [planRead, read, refuse]

end

theorem four_le_of_no_index {n : Nat} (outside : ∀ i : Four, n ≠ i.num) : 4 ≤ n := by
  by_contra below
  obtain ⟨i, num⟩ := exists_four (Nat.lt_of_not_le below)
  exact outside i num.symm

/-- Settles O16: group and index decide which group's fields are packed behind the status bits, or that the index is refused. -/
theorem planReadShowsOneInstance : Obligations.PlanReadShowsOneInstance := by
  unfold Obligations.PlanReadShowsOneInstance
  intro dt s p r rest next code group index part pl refused shows
  have shown (d : Data) (read : pl.read group index part = some d) :
      exec (.planRead dt) s = .next ((s.taken dt p rest).replied p r .ok d) := exec_planRead_some next code read
  have unread (read : pl.read group index part = none) : refused := exec_planRead_none next code read
  refine ⟨fun engine => shown _ ?_, fun cylinder c i => shown _ ?_, fun cylinder outside => unread ?_, fun timing => shown _ ?_,
    fun kind k i => shown _ ?_, fun kind outside => unread ?_, fun bank b i => shown _ ?_,
    fun profile x i => ⟨fun first => shown _ ?_, fun second => shown _ ?_⟩, fun indexed outside => unread ?_,
    fun limits => shown _ ?_, fun none => unread ?_⟩
  · rw [engine]
    rfl
  · rw [cylinder, i, Plan.read, cylOf_num]
    rfl
  · rw [cylinder, Plan.read, cylOf_eq_none outside]
    rfl
  · rw [timing]
    rfl
  · rw [kind, i, Plan.read, kindOf_kindCode]
    rfl
  · rw [kind, Plan.read, kindOf_eq_none outside]
    rfl
  · rw [bank, i, Plan.read, if_pos (Four.num_lt b), fourOf_num]
    rfl
  · rw [profile, i, first, Plan.read, if_pos (Four.num_lt x), fourOf_num]
    rfl
  · rw [profile, i, second, Plan.read, if_pos (Four.num_lt x), fourOf_num]
    rfl
  · have beyond : ¬index < 4 := Nat.not_lt.mpr (four_le_of_no_index outside)
    obtain bank | profile := indexed
    · rw [bank, Plan.read, if_neg beyond]
    · rw [profile, Plan.read, if_neg beyond]
  · rw [limits]
    rfl
  · rw [none]
    rfl

end Sys2Proof.Machine
end

section
/-! SUPPORT. Bits of fields, packed words, frames and requests. -/

namespace Sys2Proof.Machine

/-! ## Fields and packing (R154, R158) -/

theorem field_testBit (ps : Params) (lo width i : Nat) :
    (field ps lo width).testBit i = (decide (i < width) && ps.getLsbD (lo + i)) := by
  rw [field, Nat.testBit_mod_two_pow, Nat.testBit_div_two_pow, BitVec.getLsbD, Nat.add_comm]

/-- The bits of a packed word: those of the first field, and above them those of the rest. -/
theorem packBits_cons_testBit (width v : Nat) (rest : List (Nat × Nat)) (i : Nat) :
    (packBits ((width, v) :: rest)).testBit i = if i < width then v.testBit i else (packBits rest).testBit (i - width) := by
  rw [packBits, Nat.add_comm, Nat.testBit_two_pow_mul_add _ (Nat.mod_lt v (Nat.two_pow_pos width))]
  split
  · next inside => rw [Nat.testBit_mod_two_pow, decide_eq_true inside, Bool.true_and]
  · rfl

theorem packBits_append_testBit (before rest : List (Nat × Nat)) (i : Nat) :
    (packBits (before ++ rest)).testBit ((before.map Prod.fst).sum + i) = (packBits rest).testBit i := by
  induction before with
  | nil => simp
  | cons f before ih =>
    obtain ⟨width, v⟩ := f
    rw [List.cons_append, packBits_cons_testBit, List.map_cons, List.sum_cons, if_neg (by omega), ← ih]
    congr 1
    omega

theorem packBits_testBit_beyond (fields : List (Nat × Nat)) {i : Nat} (beyond : (fields.map Prod.fst).sum ≤ i) :
    (packBits fields).testBit i = false :=
  Nat.testBit_eq_false_of_lt ((packBits_lt fields).trans_le (Nat.pow_le_pow_right (by omega) beyond))

/-- Bytes packed from bit 0 upward. -/
theorem packBits_bytes_testBit {bytes : List Nat} {k b : Nat} (found : bytes[k]? = some b) {i : Nat} (inside : i < 8) :
    (packBits (bytes.map fun v => (8, v))).testBit (8 * k + i) = b.testBit i := by
  induction bytes generalizing k with
  | nil => cases found
  | cons v bytes ih =>
    rw [List.map_cons, packBits_cons_testBit]
    cases k with
    | zero =>
      obtain rfl : v = b := Option.some.inj found
      rw [if_pos (by omega), Nat.mul_zero, Nat.zero_add]
    | succ k =>
      rw [if_neg (by omega), ← ih found]
      congr 1
      omega

/-- A field is negative where its top bit is 1 (R45). -/
theorem signedField_eq (ps : Params) (lo : Nat) {width : Nat} (pos : 0 < width) : signedField ps lo width =
    if (field ps lo width).testBit (width - 1) then (field ps lo width : Int) - 2 ^ width else field ps lo width := by
  unfold signedField
  by_cases below : field ps lo width < 2 ^ (width - 1)
  · rw [if_pos below, Nat.testBit_eq_false_of_lt below]
    rfl
  · have top : (field ps lo width).testBit (width - 1) = true :=
      Nat.testBit_of_two_pow_le_and_two_pow_add_one_gt (Nat.le_of_not_lt below)
        (by rw [Nat.sub_add_cancel pos]; exact field_lt ps lo width)
    rw [if_neg below, if_pos top]

/-! ## Frames and requests (R144) -/

theorem wireNumber_concat (bytes : List Byte) (b : Byte) : wireNumber (bytes ++ [b]) = 2 ^ 8 * wireNumber bytes + b.toNat := by
  simp [wireNumber]

/-- Bytes in wire order, the last one lowest. -/
theorem wireNumber_testBit {bytes : List Byte} {k : Nat} {b : Byte} (found : bytes[k]? = some b) {i : Nat} (inside : i < 8) :
    (wireNumber bytes).testBit (8 * (bytes.length - 1 - k) + i) = b.getLsbD i := by
  induction bytes using List.reverseRecOn with
  | nil => cases found
  | append_singleton bytes last ih =>
    have length : (bytes ++ [last]).length = bytes.length + 1 := by simp
    rw [wireNumber_concat, Nat.testBit_two_pow_mul_add _ last.isLt, length]
    by_cases earlier : k < bytes.length
    · rw [List.getElem?_append_left earlier] at found
      rw [if_neg (by omega), ← ih found]
      congr 1
      omega
    · have index : k = bytes.length := by
        have := (List.getElem?_eq_some_iff.mp found).1
        omega
      obtain rfl : last = b := by simpa [index] using found
      rw [if_pos (by omega), BitVec.getLsbD]
      congr 1
      omega

theorem requestOf_params_getLsbD (w : Wire) {k i : Nat} (parameter : k < 9) (inside : i < 8) :
    (requestOf w).params.getLsbD (8 * k + i) = w.getLsbD (8 * (9 - k) + i) := by
  have packed : (requestOf w).params =
      BitVec.ofNat 72 (packBits (((List.range 9).map fun j => (wireByte w (j + 2)).toNat).map fun v => (8, v))) := rfl
  have byte : ((List.range 9).map fun j => (wireByte w (j + 2)).toNat)[k]? = some (wireByte w (k + 2)).toNat := by
    simp [parameter]
  rw [packed, BitVec.getLsbD_ofNat, packBits_bytes_testBit byte inside, wireByte_testBit _ _ inside,
    decide_eq_true (by omega), Bool.true_and]
  congr 1
  omega

/-- Settles O13: bit by bit what a field reads, what packing places, and where the bytes of a frame stand. -/
theorem fieldsPackedFromBitZero : Obligations.FieldsPackedFromBitZero := by
  unfold Obligations.FieldsPackedFromBitZero
  refine ⟨field_testBit, fun before after width v i inside => ?_, fun _ _ => packBits_testBit_beyond _,
    fun bytes k i b twelve found inside => ?_, fun w k i parameter inside => requestOf_params_getLsbD w parameter inside,
    fun w i inside => ?_, fun w i inside => ?_, fun ps lo _ => signedField_eq ps lo⟩
  · rw [packBits_append_testBit, packBits_cons_testBit, if_pos inside]
  · have placed := wireNumber_testBit found inside
    rw [wireOf, BitVec.getLsbD_ofNat, decide_eq_true (by omega), Bool.true_and, ← placed, twelve]
  · have byte := wireByte_testBit w 0 inside
    exact byte
  · have byte := wireByte_testBit w 1 (Nat.lt_trans inside (by decide))
    rw [requestOf, BitVec.getLsbD_setWidth, decide_eq_true inside, Bool.true_and]
    exact byte

end Sys2Proof.Machine
end

section
/-! SUPPORT. PLAN_CLOSE and PLAN_OPEN: refusals, the load of the working copy and the two votes. -/

namespace Sys2Proof.Machine

/-! ## A reply and what it leaves -/

/-- A reply on both sides changes no flag between them. -/
theorem Raised.replied {s t : State} {on : Port → Flag → Bool} (raised : Raised s t on) (p : Port) (r : Request) (x : Result) (d : Data) :
    Raised (s.replied p r x d) (t.replied p r x d) on := by
  intro q
  by_cases own : q = p
  · subst own
    obtain ⟨frame, flags, attn, still⟩ := raised q
    rw [State.replied_port_self, State.replied_port_self]
    refine ⟨?_, flags, attn, still⟩
    rw [frame]
  · rw [State.replied_port_ne s own, State.replied_port_ne t own]
    exact raised q

theorem refuse_answer {s : State} {p : Port} {r : Request} (x : Result) {n : Nat} (small : n < 256) :
    (refuse s x n).state.replied p r (refuse s x n).result (refuse s x n).data = s.replied p r x (BitVec.ofNat 48 n) := by
  rw [← dataBytes_singleton small]
  rfl

/-! ## PLAN_CLOSE refused (R38) -/

/-- Settles O17: a CLOSED plan refuses first, and after that the first check that fails is the number answered. -/
theorem planCloseRefusedAtFirstFailingCheck : Obligations.PlanCloseRefusedAtFirstFailingCheck := by
  unfold Obligations.PlanCloseRefusedAtFirstFailingCheck
  intro dt s p r rest next code
  rw [exec_planClose_eq, State.serve_of_nextIs next dt (by simp [code])]
  refine ⟨fun closed => ?_, fun opened n low high before fails => ?_⟩
  · have refuses : planClose p r.params (s.taken dt p rest) = refuse (s.taken dt p rest) .planClosed := if_pos closed
    rw [refuses]
    exact congrArg _ (refuse_answer .planClosed (by omega))
  · have failure := Plan.firstFailure_closeChecks_some low high before fails
    have refuses : planClose p r.params (s.taken dt p rest) = refuse (s.taken dt p rest) .planInvalid n := by
      simp [planClose, opened, failure]
    rw [refuses, refuse_answer .planInvalid (by omega)]

/-! ## The tracker takes a working copy (R2) -/

/-- The tracker's sync state outlives a load: the wheel is the one in use, or there is no sync to lose. -/
def Tracker.KeepsSync (t : Tracker) (w : WorkingCopy) : Prop := t.sameWheel w = true ∨ t.sync = .stopped ∨ t.sync = .seeking

theorem Tracker.sameWheel_iff (t : Tracker) (w : WorkingCopy) : t.sameWheel w = true ↔
    ∃ v, t.copy = some v ∧ v.teeth = w.teeth ∧ v.missing = w.missing ∧ v.gapRatio = w.gapRatio ∧ v.cam0 = w.cam0 := by
  unfold Tracker.sameWheel WorkingCopy.sameWheel
  cases t.copy <;> simp

section
variable {t : Tracker} {w : WorkingCopy} {now : Nat}

theorem Tracker.load_loses (loses : ¬t.KeepsSync w) :
    t.load w now = { t with copy := some w, sync := .seeking, phaseHeld := false } := by
  obtain ⟨otherWheel, synced⟩ := not_or.mp loses
  rw [Tracker.load, if_neg otherWheel, if_neg synced]
  rfl

theorem Tracker.load_keeps (keeps : t.KeepsSync w) :
    t.load w now = { t with copy := some w, marks := if t.phaseKnown then t.marksAfterLoad w now else t.marks } := by
  unfold Tracker.load
  by_cases wheel : t.sameWheel w = true
  · rw [if_pos wheel]
    split <;> rfl
  · have unsynced : t.sync = .stopped ∨ t.sync = .seeking := keeps.resolve_left wheel
    have unknown : t.phaseKnown = false := by
      unfold Tracker.phaseKnown
      obtain stopped | seeking := unsynced
      · rw [stopped]
      · rw [seeking]
    rw [if_neg wheel, if_pos unsynced, unknown]
    rfl

theorem Tracker.load_marks_of_not (other : ¬(t.KeepsSync w ∧ PhaseKnown t)) : (t.load w now).marks = t.marks := by
  by_cases keeps : t.KeepsSync w
  · rw [Tracker.load_keeps keeps, Tracker.phaseKnown_eq_false fun known => other ⟨keeps, known⟩]
    rfl
  · rw [Tracker.load_loses keeps]

theorem Tracker.load_copy : (t.load w now).copy = some w := by
  by_cases keeps : t.KeepsSync w
  · rw [Tracker.load_keeps keeps]
  · rw [Tracker.load_loses keeps]

theorem Tracker.load_timer : (t.load w now).stallOn = t.stallOn ∧ (t.load w now).lastTooth = t.lastTooth := by
  by_cases keeps : t.KeepsSync w
  · rw [Tracker.load_keeps keeps]
    exact ⟨rfl, rfl⟩
  · rw [Tracker.load_loses keeps]
    exact ⟨rfl, rfl⟩

/-- After a load the stall is judged by the new timeout (R2). -/
theorem Tracker.load_stallDue_iff : (t.load w now).stallDue now = true ↔
    t.stallOn = true ∧ ∃ last, t.lastTooth = some last ∧ last + 1000 * w.stallMs ≤ now := by
  obtain ⟨stallOn, lastTooth⟩ := Tracker.load_timer (t := t) (w := w) (now := now)
  unfold Tracker.stallDue Tracker.stallTimeout
  rw [Tracker.load_copy, stallOn, lastTooth, Bool.and_eq_true]
  refine and_congr_right fun _ => ?_
  cases t.lastTooth with
  | none => simp
  | some last =>
    simp only [Option.elim_some, Option.some.injEq, exists_eq_left']
    exact decide_eq_true_iff

end

/-- One value written for some of a list of cylinders. -/
theorem PerCyl.get_foldl_set (on : Cyl → Bool) (x : Nat) (l : List Cyl) (v : PerCyl Nat) (d : Cyl) :
    (l.foldl (fun v c => if on c then v.set c x else v) v).get d = if d ∈ l ∧ on d = true then x else v.get d := by
  induction l generalizing v with
  | nil => simp
  | cons c l ih =>
    rw [List.foldl_cons, ih]
    by_cases same : d = c
    · subst same
      by_cases selected : on d = true <;> simp [selected]
    · have read : (if on c then v.set c x else v).get d = v.get d := by
        split <;> simp [PerCyl.get_set, same]
      simp [read, same]

/-- For which cylinders a load withholds the arming point (R2, log 11). -/
theorem Tracker.marksAfterLoad_withheldTo (t : Tracker) (w : WorkingCopy) (now : Nat) (c : Cyl) :
    (t.marksAfterLoad w now).withheldTo.get c =
      if t.withholdsArming w now c = true then t.marks.laps * 11520 + 11520 else t.marks.withheldTo.get c := by
  unfold Tracker.marksAfterLoad cycleSteps
  dsimp only
  rw [PerCyl.get_foldl_set, Nat.add_mul, Nat.one_mul]
  simp only [cyl_mem_all, true_and]

theorem Tracker.withholdsArming_iff (t : Tracker) (w : WorkingCopy) (now : Nat) (c : Cyl) :
    t.withholdsArming w now c = true ↔
      (∃ a, t.marks.armedAt.get c = some a ∧ t.marks.laps * 11520 ≤ a) ∨
        (max (t.marks.laps * 11520) t.marks.gainPos ≤ t.marks.laps * 11520 + (w.tdc.get c + 11520 - w.advance) % 11520 ∧
          t.marks.laps * 11520 + (w.tdc.get c + 11520 - w.advance) % 11520 ≤ t.position now) := by
  unfold Tracker.withholdsArming WorkingCopy.armAngle cycleSteps
  cases t.marks.armedAt.get c <;> simp

/-- A stall after a load leaves the new copy and the marks of the load. -/
theorem Tracker.load_stop (t : Tracker) (w : WorkingCopy) (now : Nat) : (t.load w now).stop = { t with
    copy := some w, sync := .stopped, window := [], speed := 0, lastTooth := none, candidateCount := 0, tooth := 0, rev := false
    missedGaps := 0, phaseMisses := 0, prevCam := none, phaseHeld := false, stallOn := false, marks := (t.load w now).marks } := by
  by_cases keeps : t.KeepsSync w
  · rw [Tracker.load_keeps keeps]
    rfl
  · rw [Tracker.load_loses keeps]
    rfl

/-! ## The load of the working copy (R2, R39) -/

theorem State.stallIfDue_due {s : State} (due : s.tracker.stallDue s.now = true) :
    s.stallIfDue = s.trackerBecomes s.tracker.stop := if_pos due

theorem State.stallIfDue_early {s : State} (early : ¬s.tracker.stallDue s.now = true) : s.stallIfDue = s := if_neg early

/-- The tracker that a load leaves to the stall timer. -/
def State.loaded (s : State) : Tracker := s.tracker.load s.plan.workingCopy s.now

theorem State.loadWorkingCopy_early {s : State} (early : ¬s.loaded.stallDue s.now = true) :
    s.loadWorkingCopy = s.trackerBecomes s.loaded := by
  refine State.stallIfDue_early ?_
  rwa [State.trackerBecomes_tracker, State.trackerBecomes_now]

theorem State.loadWorkingCopy_due {s : State} (due : s.loaded.stallDue s.now = true) :
    s.loadWorkingCopy = (s.trackerBecomes s.loaded).trackerBecomes s.loaded.stop := by
  have stops := State.stallIfDue_due (s := s.trackerBecomes s.loaded)
    (by rwa [State.trackerBecomes_tracker, State.trackerBecomes_now])
  rwa [State.trackerBecomes_tracker] at stops

theorem State.loadWorkingCopy_tracker (s : State) :
    s.loadWorkingCopy.tracker = if s.loaded.stallDue s.now = true then s.loaded.stop else s.loaded := by
  split
  · next due => rw [State.loadWorkingCopy_due due, State.trackerBecomes_tracker]
  · next early => rw [State.loadWorkingCopy_early early, State.trackerBecomes_tracker]

/-- The flags of a load, from the sync change of the new wheel and that of the stall (R2, R25). -/
def loadFlags (s : State) : Port → Flag → Bool := fun p f =>
  changeFlags s.tracker s.loaded p f || (s.loaded.stallDue s.now && changeFlags s.loaded s.loaded.stop p f)

theorem State.loadWorkingCopy_raised (s : State) : Raised s s.loadWorkingCopy (loadFlags s) := by
  have first : Raised s (s.trackerBecomes s.loaded) (changeFlags s.tracker s.loaded) := State.trackerBecomes_raised _ _
  by_cases due : s.loaded.stallDue s.now = true
  · have second := State.trackerBecomes_raised (s.trackerBecomes s.loaded) s.loaded.stop
    rw [State.trackerBecomes_tracker] at second
    rw [State.loadWorkingCopy_due due]
    exact raised_congr (first.trans second) fun p f => by simp [loadFlags, due, changeFlags]
  · rw [State.loadWorkingCopy_early due]
    exact raised_congr first fun p f => by simp [loadFlags, due]

/-- A load reports a change where the wheel loses the sync state or a stall ends it. -/
theorem loadFlags_iff (s : State) (p : Port) (f : Flag) :
    let changes := ¬s.tracker.KeepsSync s.plan.workingCopy ∨ (s.loaded.stallDue s.now = true ∧ s.tracker.sync ≠ .stopped)
    loadFlags s p f = true ↔ (f = .syncChange ∧ changes) ∨ (f = .syncLost ∧ Synced s.tracker ∧ changes) := by
  intro changes
  have running : Synced s.tracker → s.tracker.sync ≠ .stopped := Synced.running
  by_cases keeps : s.tracker.KeepsSync s.plan.workingCopy
  · have same : s.loaded.sync = s.tracker.sync := by rw [State.loaded, Tracker.load_keeps keeps]
    have held : Synced s.loaded ↔ Synced s.tracker := by rw [Synced, Synced, same]
    have stops : s.loaded.stop.sync ≠ s.loaded.sync ↔ s.tracker.sync ≠ .stopped := by rw [same]; exact ne_comm
    rw [loadFlags, changeFlags_same same, Bool.false_or, Bool.and_eq_true, changeFlags_unsynced_iff s.loaded.stop_unsynced, stops, held]
    simp only [changes, keeps, not_true_eq_false, false_or]
    tauto
  · have seeks : s.loaded.sync = .seeking := by rw [State.loaded, Tracker.load_loses keeps]
    have unsynced : ¬Synced s.loaded := by simp [Synced, seeks]
    have moved : s.loaded.sync ≠ s.tracker.sync := fun same => keeps (.inr (.inr (same ▸ seeks)))
    rw [loadFlags, Bool.or_eq_true, Bool.and_eq_true, changeFlags_unsynced_iff unsynced, changeFlags_unsynced_iff s.loaded.stop_unsynced]
    simp only [changes, keeps, not_false_eq_true, true_or, moved, ne_eq, unsynced]
    tauto

/-! ## The notices of a load (R25) -/

theorem State.loadWorkingCopy_unnoticed {s : State} (keeps : s.tracker.KeepsSync s.plan.workingCopy)
    (still : ¬(s.loaded.stallDue s.now = true ∧ s.tracker.sync ≠ .stopped)) :
    s.loadWorkingCopy.syncToCycle = s.syncToCycle ∧ s.loadWorkingCopy.syncToTable = s.syncToTable := by
  have same : s.tracker.sync = s.loaded.sync := by rw [State.loaded, Tracker.load_keeps keeps]
  obtain ⟨toCycle, toTable⟩ := State.trackerBecomes_unnoticed same
  by_cases due : s.loaded.stallDue s.now = true
  · have stopped : s.loaded.sync = .stopped := by
      rw [← same]
      exact not_not.mp fun runs => still ⟨due, runs⟩
    obtain ⟨toCycle', toTable'⟩ := State.trackerBecomes_unnoticed (s := s.trackerBecomes s.loaded) (new := s.loaded.stop)
      (by rwa [State.trackerBecomes_tracker])
    rw [State.loadWorkingCopy_due due, toCycle', toTable']
    exact ⟨toCycle, toTable⟩
  · rw [State.loadWorkingCopy_early due]
    exact ⟨toCycle, toTable⟩

/-- `Noticed` speaks of the queues of sync changes alone. -/
theorem Noticed.of_queues {s s' t t' : State} {old new : SyncState} {before after : Prop} (noticed : Noticed s t old new before after)
    (first : s'.syncToCycle = s.syncToCycle ∧ s'.syncToTable = s.syncToTable)
    (last : t'.syncToCycle = t.syncToCycle ∧ t'.syncToTable = t.syncToTable) : Noticed s' t' old new before after := by
  rwa [Noticed, first.1, first.2, last.1, last.2]

theorem State.loaded_noticed {s : State} (loses : ¬s.tracker.KeepsSync s.plan.workingCopy) :
    Noticed s (s.trackerBecomes s.loaded) s.tracker.sync .seeking (PhaseKnown s.tracker) False := by
  have seeks : s.loaded.sync = .seeking := by rw [State.loaded, Tracker.load_loses loses]
  have moved : s.tracker.sync ≠ s.loaded.sync := fun same => loses (.inr (.inr (same.trans seeks)))
  have noticed := State.trackerBecomes_noticed moved
  rwa [seeks, eq_false (show ¬PhaseKnown s.loaded by simp [PhaseKnown, seeks])] at noticed

theorem State.stopped_noticed {s : State} (runs : s.loaded.sync ≠ .stopped) :
    Noticed (s.trackerBecomes s.loaded) ((s.trackerBecomes s.loaded).trackerBecomes s.loaded.stop) s.loaded.sync .stopped
      (PhaseKnown s.loaded) False := by
  have noticed := State.trackerBecomes_noticed (s := s.trackerBecomes s.loaded) (new := s.loaded.stop)
    (by rwa [State.trackerBecomes_tracker])
  rw [State.trackerBecomes_tracker, eq_false s.loaded.stop_phaseless] at noticed
  exact noticed

/-- Settles O18: the load is that of the tracker, then the stall judged by the new copy; each of the two reports its change. -/
theorem planCloseLoadsWorkingCopy : Obligations.PlanCloseLoadsWorkingCopy := by
  unfold Obligations.PlanCloseLoadsWorkingCopy
  intro dt s p r rest next code opened passes base e keeps stalls old changes lap angle arms withheld
  let w := s.plan.workingCopy
  let u := (s.taken dt p rest).setPlan { s.plan with closed := true }
  have keepsIff : old.KeepsSync w ↔ keeps := or_congr_left (Tracker.sameWheel_iff old w)
  have stallsIff : u.loaded.stallDue u.now = true ↔ stalls := Tracker.load_stallDue_iff
  have closes : exec (.planClose dt) s = .next ((u.loadWorkingCopy.raiseBoth .planChange).replied p r .ok 0) := by
    rw [exec_planClose_eq, State.serve_of_nextIs next dt (by simp [code])]
    have serves : planClose p r.params (s.taken dt p rest) = served (s.taken dt p rest).closePlan 0 := by
      simp [planClose, opened, Plan.firstFailure_closeChecks_none.mpr passes]
    rw [serves]
    rfl
  have tracker := State.loadWorkingCopy_tracker u
  have early (waits : ¬stalls) : u.loadWorkingCopy.tracker = old.load w u.now := by
    rw [tracker, if_neg (mt stallsIff.mp waits)]
    rfl
  have due (stalled : stalls) : u.loadWorkingCopy.tracker = (old.load w u.now).stop := by
    rw [tracker, if_pos (stallsIff.mpr stalled)]
    rfl
  have copy : u.loadWorkingCopy.tracker.copy = some w := by
    rw [tracker]
    split <;> exact Tracker.load_copy
  have marks : u.loadWorkingCopy.tracker.marks = (old.load w u.now).marks := by
    rw [tracker]
    split <;> rfl
  have after : ((u.loadWorkingCopy.raiseBoth .planChange).replied p r .ok 0).syncToCycle = u.loadWorkingCopy.syncToCycle ∧
      ((u.loadWorkingCopy.raiseBoth .planChange).replied p r .ok 0).syncToTable = u.loadWorkingCopy.syncToTable :=
    ⟨by simp only [State.replied_syncToCycle, State.raiseBoth_syncToCycle],
      by simp only [State.replied_syncToTable, State.raiseBoth_syncToTable]⟩
  refine ⟨_, w, fun q f => loadFlags u q f || flagBoth .planChange q f, closes, ?frame, ?copied, fun waits kept => ?kept,
    fun waits lost => ?lost, fun stalled => ?stopped, fun kept known => ?marked, fun other => ?unmarked, fun unchanged => ?unnoticed,
    fun lost waits => ?seeks, fun kept stalled runs => ?stops, fun lost stalled => ?both, ?raised, fun q f => ?flags⟩
  case frame => apply State.eq_of <;> simp [base, u]
  case copied => exact ⟨copy, rfl, rfl, rfl, rfl, rfl, fun c => by cases c <;> rfl, rfl, rfl, rfl, rfl⟩
  case kept =>
    rw [State.replied_tracker, State.raiseBoth_tracker, marks, early waits, Tracker.load_keeps (keepsIff.mpr kept)]
  case lost =>
    rw [State.replied_tracker, State.raiseBoth_tracker, early waits, Tracker.load_loses (mt keepsIff.mp lost)]
  case stopped =>
    rw [State.replied_tracker, State.raiseBoth_tracker, marks, due stalled]
    exact Tracker.load_stop old w u.now
  case marked =>
    have after : (old.load w u.now).marks = old.marksAfterLoad w u.now := by
      rw [Tracker.load_keeps (keepsIff.mpr kept), (Tracker.phaseKnown_iff _).mpr known]
      rfl
    rw [State.replied_tracker, State.raiseBoth_tracker, marks, after]
    refine ⟨rfl, fun c => ?_⟩
    have withholds : old.withholdsArming w u.now c = true ↔ withheld c := by
      rw [Tracker.withholdsArming_iff]
      cases c <;> rfl
    rw [Tracker.marksAfterLoad_withheldTo]
    exact ⟨fun held => if_pos (withholds.mpr held), fun free => if_neg (mt withholds.mp free)⟩
  case unmarked =>
    rw [State.replied_tracker, State.raiseBoth_tracker, marks]
    exact Tracker.load_marks_of_not fun h => other ⟨keepsIff.mp h.1, h.2⟩
  case unnoticed =>
    obtain ⟨kept, still⟩ := not_or.mp unchanged
    rw [State.replied_syncToCycle, State.raiseBoth_syncToCycle, State.replied_syncToTable, State.raiseBoth_syncToTable]
    exact State.loadWorkingCopy_unnoticed (s := u) (keepsIff.mpr (not_not.mp kept)) fun h => still ⟨stallsIff.mp h.1, h.2⟩
  case seeks =>
    have noticed := State.loaded_noticed (s := u) (mt keepsIff.mp lost)
    rw [← State.loadWorkingCopy_early (mt stallsIff.mp waits)] at noticed
    exact noticed.of_queues ⟨rfl, rfl⟩ after
  case stops =>
    have loaded : u.loaded = _ := Tracker.load_keeps (keepsIff.mpr kept)
    have same : u.loaded.sync = old.sync := by
      rw [loaded]
      rfl
    have known : PhaseKnown u.loaded ↔ PhaseKnown old := by
      rw [loaded]
      rfl
    have noticed := State.stopped_noticed (s := u) (by rwa [same])
    rw [← State.loadWorkingCopy_due (stallsIff.mpr stalled), same, propext known] at noticed
    obtain ⟨toCycle, toTable⟩ := State.trackerBecomes_unnoticed (s := u) same.symm
    exact noticed.of_queues ⟨toCycle.symm, toTable.symm⟩ after
  case both =>
    have loaded : u.loaded = _ := Tracker.load_loses (mt keepsIff.mp lost)
    have seeks : u.loaded.sync = .seeking := by rw [loaded]
    have noticed := State.stopped_noticed (s := u) (by simp [seeks])
    rw [← State.loadWorkingCopy_due (stallsIff.mpr stalled), seeks,
      eq_false (show ¬PhaseKnown u.loaded by simp [PhaseKnown, seeks])] at noticed
    exact ⟨_, (State.loaded_noticed (s := u) (mt keepsIff.mp lost)).of_queues ⟨rfl, rfl⟩ ⟨rfl, rfl⟩,
      noticed.of_queues ⟨rfl, rfl⟩ after⟩
  case raised =>
    exact ((State.loadWorkingCopy_raised u).trans (raised_raiseBoth _ .planChange)).replied p r .ok 0
  case flags =>
    have reported := loadFlags_iff u q f
    rw [stallsIff, show u.tracker.KeepsSync u.plan.workingCopy ↔ keeps from keepsIff] at reported
    rw [Bool.or_eq_true, flagBoth, decide_eq_true_iff, or_comm]
    exact or_congr_right reported

/-! ## PLAN_OPEN (R40, R41) -/

section
variable {l : List Bool} {holds : Nat → Prop}
  (reads : ∀ n, 1 ≤ n → n ≤ l.length → ∃ b, l[n - 1]? = some b ∧ (b = true ↔ holds n))
include reads

theorem firstFailure_eq_some_of {n : Nat} (low : 1 ≤ n) (high : n ≤ l.length) (before : ∀ m, 1 ≤ m → m < n → holds m)
    (fails : ¬holds n) : firstFailure l = some n := by
  obtain ⟨b, at_n, iff⟩ := reads n low high
  have b_false : b = false := Bool.eq_false_iff.mpr (mt iff.mp fails)
  refine firstFailure_eq_some.mpr ⟨low, b_false ▸ at_n, fun j earlier => ?_⟩
  obtain ⟨b', at_j, iff'⟩ := reads (j + 1) (by omega) (by omega)
  have b_true : b' = true := iff'.mpr (before _ (by omega) (by omega))
  rw [Nat.add_sub_cancel] at at_j
  rw [at_j, b_true]

theorem firstFailure_eq_none_of (all : ∀ n, 1 ≤ n → n ≤ l.length → holds n) : firstFailure l = none := by
  refine firstFailure_eq_none.mpr fun b mem => ?_
  obtain ⟨j, at_j⟩ := List.getElem?_of_mem mem
  have below : j < l.length := (List.getElem?_eq_some_iff.mp at_j).1
  obtain ⟨b', read, iff⟩ := reads (j + 1) (by omega) (by omega)
  have same : b = b' := Option.some.inj (at_j.symm.trans read)
  rw [same]
  exact iff.mpr (all _ (by omega) (by omega))

end

/-- Condition `n` of PLAN_OPEN (R40). -/
def State.OpenHolds (s : State) (n : Nat) : Prop :=
  if n = 1 then s.plan.closed = true
  else if n = 2 then s.tracker.sync = .stopped
  else if n = 3 then ∀ c, NothingArmed (s.lane c)
  else if n = 4 then s.service.inProgress = none
  else ∀ b, BankAtRest s b

theorem State.openConditions_get (s : State) (n : Nat) (low : 1 ≤ n) (high : n ≤ s.openConditions.length) :
    ∃ b, s.openConditions[n - 1]? = some b ∧ (b = true ↔ s.OpenHolds n) := by
  have : n = 1 ∨ n = 2 ∨ n = 3 ∨ n = 4 ∨ n = 5 := by
    have : s.openConditions.length = 5 := rfl
    omega
  obtain rfl | rfl | rfl | rfl | rfl := this <;> refine ⟨_, rfl, ?_⟩
  · exact Iff.rfl
  · exact decide_eq_true_iff
  · exact s.nothingArmed_iff
  · simp [State.OpenHolds]
  · simp [State.OpenHolds, State.bankAtRest_iff]

/-- The first vote is held; its answer shows it. -/
theorem planOpen_first {s : State} {p : Port} (ps : Params) (all : firstFailure s.openConditions = none) (closed : s.plan.closed = true)
    (alone : s.plan.votes.get p.other = false) :
    planOpen p ps s = served (s.setPlan { s.plan with votes := s.plan.votes.set p true })
      (packData [(1, 0), (1, 1), (1, bit (decide (p = .a))), (1, bit (decide (p = .b)))]) := by
  have votes : s.vote p = s.setPlan { s.plan with votes := s.plan.votes.set p true } := by simp [State.vote, alone]
  rw [planOpen, all, votes]
  cases p <;> simp_all [Plan.status, State.setPlan, PerPort.set, PerPort.get, Port.other, bit]

theorem planOpen_second {s : State} {p : Port} (ps : Params) (all : firstFailure s.openConditions = none)
    (voted : s.plan.votes.get p.other = true) : planOpen p ps s = served s.reopenPlan 0 := by
  have votes : s.vote p = s.reopenPlan := by simp [State.vote, voted]
  rw [planOpen, all, votes]
  rfl

/-- Settles O19: the first condition that fails is answered; with none the vote is held or, the second, opens the plan. -/
theorem planOpenNeedsBothVotes : Obligations.PlanOpenNeedsBothVotes := by
  unfold Obligations.PlanOpenNeedsBothVotes
  intro dt s p r rest next code holds
  rw [exec_planOpen_eq, State.serve_of_nextIs next dt (by simp [code])]
  have reads := (s.taken dt p rest).openConditions_get
  refine ⟨fun n low high before fails => ?_, fun all alone => ?_, fun all voted => ?_⟩
  · have refuses : planOpen p r.params (s.taken dt p rest) = refuse (s.taken dt p rest) .state n := by
      simp only [planOpen, firstFailure_eq_some_of reads low high before fails]
    rw [refuses, refuse_answer .state (by omega)]
  · rw [planOpen_first r.params (firstFailure_eq_none_of reads all) (all 1 (by omega) (by omega)) alone]
    rfl
  · rw [planOpen_second r.params (firstFailure_eq_none_of reads all) voted]
    refine ⟨_, rfl, ?_, fun c => ?_, ?_⟩
    · apply State.eq_of
      case tables => rfl
      all_goals simp [served, State.reopenPlan, PerPort.fill]
    · cases c <;> rfl
    · exact (raised_raiseBoth _ .planChange).replied p r .ok 0

end Sys2Proof.Machine
end

section
/-! SUPPORT. Staging: the checks of STAGE_PULSE, the slot requests, the requests on a cylinder mask, cut-out and REINSTATE. -/

namespace Sys2Proof.Machine

/-! ## The checks of STAGE_PULSE (R45) -/

/-- Check `m` of STAGE_PULSE, where `within` is what the eighth asks of the cylinder (R45). -/
def Plan.StagePasses (pl : Plan) (n k : Nat) (profile : ProfileIx) (start : Int) (duration : Nat) (within : Prop) (m : Nat) : Prop :=
  if m = 1 then 1 ≤ n ∧ n ≤ pl.count
  else if m = 2 then 1 ≤ k ∧ k ≤ 4
  else if m = 3 then (pl.profile.get profile).isSet = true
  else if m = 4 then pl.timing.val.minWidth ≤ duration
  else if m = 5 then duration ≤ 20000
  else if m = 6 then -(pl.timing.val.advance : Int) + 64 ≤ start
  else if m = 7 then start ≤ 6720 ∧ start ≤ 11456 - (pl.timing.val.advance : Int)
  else within

section
variable {pl : Plan} {n k : Nat} {profile : ProfileIx} {start : Int} {duration : Nat} {within within' : Prop} {m : Nat}

/-- Only the eighth check asks for `within`. -/
theorem Plan.StagePasses.replace (last : m = 8 → within → within') (low : 1 ≤ m) (high : m ≤ 8)
    (passes : pl.StagePasses n k profile start duration within m) : pl.StagePasses n k profile start duration within' m := by
  have : m = 1 ∨ m = 2 ∨ m = 3 ∨ m = 4 ∨ m = 5 ∨ m = 6 ∨ m = 7 ∨ m = 8 := by omega
  obtain rfl | rfl | rfl | rfl | rfl | rfl | rfl | rfl := this
  case inr.inr.inr.inr.inr.inr.inr => exact last rfl passes
  all_goals exact passes

/-- The start angle lies before the end limit of cylinder `n`. -/
def Plan.BeforeEndLimit (pl : Plan) (n : Nat) (start : Int) : Prop := ∃ c : Cyl, c.num = n ∧ start < (pl.endLimit c : Int)

theorem Plan.stageChecks_get (low : 1 ≤ m) (high : m ≤ (pl.stageChecks n k profile start duration).length) :
    ∃ b, (pl.stageChecks n k profile start duration)[m - 1]? = some b ∧
      (b = true ↔ pl.StagePasses n k profile start duration (pl.BeforeEndLimit n start) m) := by
  have : m = 1 ∨ m = 2 ∨ m = 3 ∨ m = 4 ∨ m = 5 ∨ m = 6 ∨ m = 7 ∨ m = 8 := by
    have : (pl.stageChecks n k profile start duration).length = 8 := rfl
    omega
  obtain rfl | rfl | rfl | rfl | rfl | rfl | rfl | rfl := this <;> refine ⟨_, rfl, ?_⟩
  case inr.inr.inl => exact Iff.rfl
  case inr.inr.inr.inr.inr.inr.inr =>
    change _ ↔ pl.BeforeEndLimit n start
    unfold Plan.BeforeEndLimit
    simp only [← cylOf_eq_some]
    cases cylOf n <;> simp
  all_goals exact decide_eq_true_iff

theorem Plan.beforeEndLimit_iff (low : 1 ≤ n) (high : n ≤ 8) :
    pl.BeforeEndLimit n start ↔ ∀ c : Cyl, c.num = n → start < (pl.endLimit c : Int) := by
  obtain ⟨c, num⟩ := exists_cyl low high
  have only : ∀ d : Cyl, d.num = n → d = c := fun d same =>
    Option.some.inj ((cylOf_eq_some.mpr same).symm.trans (cylOf_eq_some.mpr num))
  constructor
  · rintro ⟨d, same, below⟩ e same'
    rwa [only e same', ← only d same]
  · exact fun all => ⟨c, num, all c num⟩

end

/-! ## The slot written (R46, R47) -/

theorem packData_eq_dataBytes {fields : List (Nat × Nat)} (small : (fields.map Prod.fst).sum ≤ 8) :
    packData fields = dataBytes [packBits fields] := by
  have byte : packBits fields < 256 := (packBits_lt fields).trans_le (Nat.pow_le_pow_right (by omega) small)
  simp [dataBytes, packData, packBits, Nat.mod_eq_of_lt byte]

theorem Tables.staged_setStaged (t : Tables) (p q : Port) (c d : Cyl) (slots : Quad (Option Pulse)) :
    (t.setStaged p c slots).staged q d = if q = p ∧ d = c then slots else t.staged q d := by
  by_cases samePort : q = p
  · subst samePort
    simp [Tables.setStaged, Tables.staged, PerCyl.get_set]
  · simp [Tables.setStaged, Tables.staged, PerPort.get_set_ne _ samePort, samePort]

/-- The answer to a slot request shows the occupied slots. -/
theorem slotWritten_answer (s : State) (dt : Nat) (p : Port) (r : Request) (rest : List Request) (c : Cyl) (i : SlotIx) (u : Option Pulse) :
    let v := slotWritten (s.taken dt p rest) p c i u
    let slots := (s.tables.staged p c).set i u
    let shown := fun i => bit (slots.get i).isSome
    v.state.replied p r v.result v.data =
      ({ s.taken dt p rest with tables := s.tables.setStaged p c slots } : State).replied p r .ok
        (packData [(1, shown .i0), (1, shown .i1), (1, shown .i2), (1, shown .i3)]) := by
  intro v slots shown
  have shows : v.data = packData [(1, shown .i0), (1, shown .i1), (1, shown .i2), (1, shown .i3)] := by
    rw [packData_eq_dataBytes (by simp)]
    simp only [v, slotWritten, State.writeSlot, served, State.setTables_tables, State.taken_tables, Tables.staged_setStaged]
    rfl
  rw [shows]
  rfl

/-- A check that fails refuses with its number (R45). -/
theorem stagePulse_refuses {s : State} {p : Port} {ps : Params} {m : Nat} (closed : s.plan.closed = true)
    (fails : firstFailure (s.plan.stageChecks (field ps 0 4) (field ps 6 3) (fourOf (field ps 9 2)) (signedField ps 11 14)
      (field ps 25 15)) = some m) : stagePulse p ps s = refuse s .range m := by
  simp [stagePulse, closed, fails]

theorem stagePulse_writes {s : State} {p : Port} {ps : Params} {c : Cyl} {kind : Kind} (closed : s.plan.closed = true)
    (cyl : c.num = field ps 0 4) (kindIs : kindCode kind = field ps 6 3)
    (all : firstFailure (s.plan.stageChecks (field ps 0 4) (field ps 6 3) (fourOf (field ps 9 2)) (signedField ps 11 14)
      (field ps 25 15)) = none) :
    stagePulse p ps s = slotWritten s p c (fourOf (field ps 4 2))
      (some ⟨kind, fourOf (field ps 9 2), signedField ps 11 14, field ps 25 15⟩) := by
  simp [stagePulse, closed, all, cylOf_eq_some.mpr cyl, kindOf_eq_some.mpr kindIs]

theorem exists_kind {k : Nat} (low : 1 ≤ k) (high : k ≤ 4) : ∃ kind : Kind, kindCode kind = k := by
  have : k = 1 ∨ k = 2 ∨ k = 3 ∨ k = 4 := by omega
  obtain rfl | rfl | rfl | rfl := this
  exacts [⟨.main, rfl⟩, ⟨.pilot, rfl⟩, ⟨.after, rfl⟩, ⟨.post, rfl⟩]

theorem clearSlot_refuses {s : State} {p : Port} {ps : Params} (closed : s.plan.closed = true)
    (outside : field ps 0 4 = 0 ∨ s.plan.count < field ps 0 4) : clearSlot p ps s = refuse s .range 1 := by
  have none : s.plan.hasCylinder (field ps 0 4) = false := decide_eq_false (by omega)
  simp [clearSlot, closed, none]

theorem clearSlot_writes {s : State} {p : Port} {ps : Params} {c : Cyl} (closed : s.plan.closed = true) (cyl : c.num = field ps 0 4)
    (low : 1 ≤ field ps 0 4) (high : field ps 0 4 ≤ s.plan.count) :
    clearSlot p ps s = slotWritten s p c (fourOf (field ps 4 2)) none := by
  have has : s.plan.hasCylinder (field ps 0 4) = true := decide_eq_true ⟨low, high⟩
  simp [clearSlot, closed, has, cylOf_eq_some.mpr cyl]

/-- Settles O21: the eight checks in order name the number answered, and a request that passes writes its one slot. -/
theorem slotRequestsWriteOneSlot : Obligations.SlotRequestsWriteOneSlot := by
  unfold Obligations.SlotRequestsWriteOneSlot
  intro dt s p r rest slot profile next count slotIs profileIs n k start duration advance passes refused written
  have slotOf : fourOf (field r.params 4 2) = slot := slotIs ▸ fourOf_num slot
  have profileOf : fourOf (field r.params 9 2) = profile := profileIs ▸ fourOf_num profile
  have reads (m : Nat) := Plan.stageChecks_get (pl := s.plan) (n := n) (k := k) (profile := profile) (start := start)
    (duration := duration) (m := m)
  refine ⟨fun code opened => ?stageOpen, fun code closed m low high before fails => ?stageRefused, fun code closed all => ?staged,
    fun code opened => ?clearOpen, fun code closed outside => ?clearRefused, fun code closed low high => ?cleared⟩
  case stageOpen =>
    rw [exec_stagePulse_eq, State.serve_of_nextIs next dt (by simp [code])]
    have refuses : stagePulse p r.params (s.taken dt p rest) = refuse (s.taken dt p rest) .planOpen := by simp [stagePulse, opened]
    rw [refuses, refuse_answer .planOpen (by omega)]
  case stageRefused =>
    have first : 1 ≤ n ∧ n ≤ s.plan.count ∨ m = 1 := by
      by_cases one : m = 1
      · exact .inr one
      · exact .inl (before 1 (by omega) (by omega))
    have failure : firstFailure (s.plan.stageChecks n k profile start duration) = some m := by
      refine firstFailure_eq_some_of reads low high (fun j one earlier => ?_) (mt (fun passed => ?_) fails)
      · exact Plan.StagePasses.replace (by omega) one (by omega) (before j one earlier)
      · refine Plan.StagePasses.replace (fun last within => ?_) low high passed
        have inPlan := first.resolve_right (by omega)
        exact (Plan.beforeEndLimit_iff inPlan.1 (inPlan.2.trans count)).mp within
    rw [exec_stagePulse_eq, State.serve_of_nextIs next dt (by simp [code]),
      stagePulse_refuses (s := s.taken dt p rest) closed (by rw [profileOf]; exact failure), refuse_answer .range (by omega)]
  case staged =>
    obtain ⟨low, high⟩ : 1 ≤ n ∧ n ≤ s.plan.count := all 1 (by omega) (by omega)
    obtain ⟨kindLow, kindHigh⟩ : 1 ≤ k ∧ k ≤ 4 := all 2 (by omega) (by omega)
    obtain ⟨c, cyl⟩ := exists_cyl low (high.trans count)
    obtain ⟨kind, kindIs⟩ := exists_kind kindLow kindHigh
    have none : firstFailure (s.plan.stageChecks n k profile start duration) = none := by
      refine firstFailure_eq_none_of reads fun m one eight => ?_
      refine Plan.StagePasses.replace (fun _ within => ?_) one eight (all m one eight)
      exact (Plan.beforeEndLimit_iff low (high.trans count)).mpr within
    refine ⟨c, kind, cyl, kindIs, ?_⟩
    rw [exec_stagePulse_eq, State.serve_of_nextIs next dt (by simp [code]),
      stagePulse_writes (s := s.taken dt p rest) closed cyl kindIs (by rw [profileOf]; exact none), slotOf, profileOf]
    exact congrArg _ (slotWritten_answer s dt p r rest c slot _)
  case clearOpen =>
    rw [exec_clearSlot_eq, State.serve_of_nextIs next dt (by simp [code])]
    have refuses : clearSlot p r.params (s.taken dt p rest) = refuse (s.taken dt p rest) .planOpen := by simp [clearSlot, opened]
    rw [refuses, refuse_answer .planOpen (by omega)]
  case clearRefused =>
    rw [exec_clearSlot_eq, State.serve_of_nextIs next dt (by simp [code]), clearSlot_refuses (s := s.taken dt p rest) closed outside,
      refuse_answer .range (by omega)]
  case cleared =>
    obtain ⟨c, cyl⟩ := exists_cyl low (high.trans count)
    refine ⟨c, cyl, ?_⟩
    rw [exec_clearSlot_eq, State.serve_of_nextIs next dt (by simp [code]), clearSlot_writes (s := s.taken dt p rest) closed cyl
      low high, slotOf]
    exact congrArg _ (slotWritten_answer s dt p r rest c slot _)

end Sys2Proof.Machine
end

section
/-! SUPPORT. Requests on a cylinder mask, cut-out and REINSTATE. -/

namespace Sys2Proof.Machine

/-! ## The mask of a request (R48) -/

/-- The cylinder mask in the parameters. -/
def maskIn (ps : Params) : BitVec 8 := BitVec.ofNat 8 (field ps 0 8)

theorem maskIn_toNat (ps : Params) : (maskIn ps).toNat = field ps 0 8 := by
  rw [maskIn, BitVec.toNat_ofNat]
  exact Nat.mod_eq_of_lt (field_lt ps 0 8)

theorem maskIn_getLsbD (ps : Params) {i : Nat} (inside : i < 8) : (maskIn ps).getLsbD i = ps.getLsbD i := by
  rw [BitVec.getLsbD, maskIn_toNat, field_testBit, decide_eq_true inside, Bool.true_and, Nat.zero_add]

theorem inMask_maskIn (ps : Params) (c : Cyl) : inMask (maskIn ps) c = ps.getLsbD (c.num - 1) :=
  maskIn_getLsbD ps (by have := Cyl.num_le c; have := Cyl.num_pos c; omega)

/-- No bit of the mask lies above the cylinder count. -/
theorem maskIn_fits_iff (ps : Params) (count : Nat) :
    (maskIn ps).toNat / 2 ^ count = 0 ↔ ∀ c : Cyl, ps.getLsbD (c.num - 1) = true → c.num ≤ count := by
  rw [Nat.div_eq_zero_iff_lt (Nat.two_pow_pos count)]
  constructor
  · intro small c named
    by_contra above
    have bit : (maskIn ps).toNat.testBit (c.num - 1) = true := (inMask_maskIn ps c).trans named
    have zero : (maskIn ps).toNat.testBit (c.num - 1) = false :=
      Nat.testBit_eq_false_of_lt (small.trans_le (Nat.pow_le_pow_right (by omega) (by omega)))
    exact absurd (bit.symm.trans zero) (by decide)
  · intro fits
    refine Nat.lt_pow_two_of_testBit _ fun i high => ?_
    by_contra one
    have bit : (maskIn ps).getLsbD i = true := Bool.not_eq_false _ ▸ one
    have inside : i < 8 := BitVec.lt_of_getLsbD bit
    obtain ⟨c, num⟩ := exists_cyl (n := i + 1) (by omega) (by omega)
    have index : c.num - 1 = i := by omega
    have := fits c (by rw [index, ← maskIn_getLsbD ps inside, bit])
    omega

section
variable {s : State} {ps : Params} (act : BitVec 8 → Served)

theorem onMask_open (opened : s.plan.closed = false) : onMask ps s act = refuse s .planOpen := by
  simp [onMask, opened]

theorem onMask_refuses (closed : s.plan.closed = true)
    (above : ∃ c : Cyl, ps.getLsbD (c.num - 1) = true ∧ s.plan.count < c.num) : onMask ps s act = refuse s .range 1 := by
  have unfit : ¬(maskIn ps).toNat / 2 ^ s.plan.count = 0 := fun fits => by
    obtain ⟨c, named, beyond⟩ := above
    exact absurd ((maskIn_fits_iff ps _).mp fits c named) (Nat.not_le.mpr beyond)
  unfold onMask
  rw [if_pos closed]
  exact if_neg unfit

theorem onMask_acts (closed : s.plan.closed = true) (fits : ∀ c : Cyl, ps.getLsbD (c.num - 1) = true → c.num ≤ s.plan.count) :
    onMask ps s act = act (maskIn ps) := by
  unfold onMask
  rw [if_pos closed]
  exact if_pos ((maskIn_fits_iff ps _).mpr fits)

end

theorem cylindersIn_nodup (mask : BitVec 8) : (cylindersIn mask).Nodup := List.Nodup.filter _ (by decide)

theorem mem_cylindersIn {mask : BitVec 8} {c : Cyl} : c ∈ cylindersIn mask ↔ inMask mask c = true := by
  simp [cylindersIn]

/-- What an operation that acts on its own cylinder does over a list of cylinders, none of them twice. -/
theorem foldl_reads {β : Type} {read : State → Cyl → β} {act : State → Cyl → State} {law : State → Prop} {update : Cyl → β → β}
    (keeps : ∀ s c, law s → law (act s c))
    (reads : ∀ s c d, law s → read (act s c) d = if d = c then update d (read s d) else read s d)
    {l : List Cyl} (nodup : l.Nodup) {s : State} (holds : law s) (d : Cyl) :
    read (l.foldl act s) d = if d ∈ l then update d (read s d) else read s d := by
  induction l generalizing s with
  | nil => simp
  | cons c l ih =>
    obtain ⟨fresh, nodup⟩ := List.nodup_cons.mp nodup
    rw [List.foldl_cons, ih nodup (keeps s c holds), reads s c d holds]
    by_cases same : d = c
    · subst same
      simp [fresh]
    · simp [same]

/-- What such an operation raises: at each cylinder what it raises for that cylinder alone. -/
theorem foldl_raised {β : Type} {read : State → Cyl → β} {act : State → Cyl → State} {law : State → Prop} {update : Cyl → β → β}
    (keeps : ∀ s c, law s → law (act s c))
    (reads : ∀ s c d, law s → read (act s c) d = if d = c then update d (read s d) else read s d)
    {flags : Cyl → β → Port → Flag → Bool} (raises : ∀ s c, law s → Raised s (act s c) (flags c (read s c)))
    {l : List Cyl} (nodup : l.Nodup) {s : State} (holds : law s) :
    Raised s (l.foldl act s) fun q f => l.any fun c => flags c (read s c) q f := by
  induction l generalizing s with
  | nil => exact raised_congr (raised_refl s) fun _ _ => rfl
  | cons c l ih =>
    obtain ⟨fresh, nodup⟩ := List.nodup_cons.mp nodup
    refine raised_congr ((raises s c holds).trans (ih nodup (keeps s c holds))) fun q f => ?_
    have others : (l.any fun d => flags d (read (act s c) d) q f) = l.any fun d => flags d (read s d) q f := by
      rw [Bool.eq_iff_iff, List.any_eq_true, List.any_eq_true]
      refine exists_congr fun d => and_congr_right fun mem => ?_
      rw [reads s c d holds, if_neg fun same : d = c => fresh (same ▸ mem)]
    rw [others, List.any_cons]

/-! ## CLEAR_STAGE (R49) -/

theorem State.clearStaged_staged (s : State) (p q : Port) (c d : Cyl) :
    (s.clearStaged p c).tables.staged q d = if q = p ∧ d = c then .fill none else s.tables.staged q d :=
  s.tables.staged_setStaged p q c d _

/-- CLEAR_STAGE empties the slots of the cylinders named, of its own port alone. -/
theorem clearStage_staged (s : State) (p q : Port) (mask : BitVec 8) (d : Cyl) :
    ((cylindersIn mask).foldl (fun s c => s.clearStaged p c) s).tables.staged q d =
      if q = p ∧ inMask mask d = true then .fill none else s.tables.staged q d := by
  rw [foldl_reads (law := fun _ => True) (read := fun s d => s.tables.staged q d)
    (update := fun _ x => if q = p then .fill none else x) (fun _ _ _ => trivial) (fun s c d _ => ?_) (cylindersIn_nodup mask) trivial]
  · by_cases own : q = p <;> simp [own, mem_cylindersIn]
  · rw [State.clearStaged_staged]
    by_cases own : q = p <;> simp [own]

theorem clearStaged_foldl (p : Port) (l : List Cyl) (s : State) :
    l.foldl (fun s c => s.clearStaged p c) s =
      { s with tables := { s.tables with staging := (l.foldl (fun s c => s.clearStaged p c) s).tables.staging } } := by
  induction l generalizing s with
  | nil => rfl
  | cons c l ih => exact ih (s.clearStaged p c)

/-- Settles O22: the two refusals, and for CLEAR_STAGE what the staged slots are afterwards. -/
theorem maskRequestsActWholeOrNotAtAll : Obligations.MaskRequestsActWholeOrNotAtAll := by
  unfold Obligations.MaskRequestsActWholeOrNotAtAll
  intro dt s p r rest i next which
  obtain ⟨act, runs⟩ : ∃ act, exec i s =
      .next ((onMask r.params (s.taken dt p rest) act).state.replied p r (onMask r.params (s.taken dt p rest) act).result
        (onMask r.params (s.taken dt p rest) act).data) := by
    obtain ⟨code, rfl⟩ | ⟨code, rfl⟩ | ⟨code, rfl⟩ := which
    · exact ⟨_, (exec_clearStage_eq dt s).trans (State.serve_of_nextIs next dt (by simp [code]) _)⟩
    · exact ⟨_, (exec_publish_eq dt s).trans (State.serve_of_nextIs next dt (by simp [code]) _)⟩
    · exact ⟨_, (exec_withdraw_eq dt s).trans (State.serve_of_nextIs next dt (by simp [code]) _)⟩
  refine ⟨fun opened => ?_, fun closed above => ?_, fun closed fits code => ?_⟩
  · rw [runs, onMask_open (s := s.taken dt p rest) act opened]
    exact congrArg _ (refuse_answer .planOpen (by omega))
  · rw [runs, onMask_refuses (s := s.taken dt p rest) act closed above]
    exact congrArg _ (refuse_answer .range (by omega))
  · obtain ⟨-, rfl⟩ := which.resolve_right fun others => by
      obtain ⟨other, -⟩ | ⟨other, -⟩ := others <;> simp [code] at other
    rw [exec_clearStage_eq, State.serve_of_nextIs next dt (by simp [code]), clearStage,
      onMask_acts (s := s.taken dt p rest) _ closed fits, maskIn_toNat]
    refine ⟨_, rfl, ?_, fun c => ?_, fun c => ?_⟩
    · exact congrArg (State.replied · p r .ok _) (clearStaged_foldl p _ (s.taken dt p rest))
    · refine (clearStage_staged _ p p _ c).trans ?_
      simp [inMask_maskIn]
    · refine (clearStage_staged _ p p.other _ c).trans ?_
      simp [Port.other_ne]

/-! ## CUTOUT_SET and REINSTATE (R89, R140) -/

/-- Settles O24: both requests write one table and answer with what they found. -/
theorem cutoutAndReinstate : Obligations.CutoutAndReinstate := by
  unfold Obligations.CutoutAndReinstate
  intro dt s p r rest next
  refine ⟨fun code => ?_, fun code c cyl => ?_, fun code outside => ?_⟩
  · rw [exec_cutoutSet_eq, State.serve_of_nextIs next dt (by simp [code])]
    have answer : (cutoutSet p r.params (s.taken dt p rest)).data =
        packData [(8, field r.params 0 8), (8, (s.tables.cutOut.get p.other).toNat)] := by
      rw [← maskIn_toNat]
      rfl
    rw [answer]
    rfl
  · rw [exec_reinstate_eq, State.serve_of_nextIs next dt (by simp [code]), reinstate, cylOf_eq_some.mpr cyl.symm]
    rfl
  · rw [exec_reinstate_eq, State.serve_of_nextIs next dt (by simp [code]), reinstate, cylOf_eq_none outside]
    exact congrArg _ (refuse_answer .range (by omega))

end Sys2Proof.Machine
end

section
/-! SUPPORT. PUBLISH and WITHDRAW as one rewriting of contributions, cylinder by cylinder, and the arming notice. -/

namespace Sys2Proof.Machine

/-! ## The flags of a recomputation (R74) -/

theorem State.recompute_raised (s : State) (c : Cyl) :
    Raised s (s.recompute c) fun q f => decide (f = .mergeExcluded) &&
      newlyExcluded (s.tables.contribution q c) ((s.tables.recompute s.plan c).contribution q c) := by
  refine raised_congr ((raised_of_ports (t := s.setTables (s.tables.recompute s.plan c)) rfl).trans
    ((raised_raiseIf _ _ .a .mergeExcluded).trans (raised_raiseIf _ _ .b .mergeExcluded))) fun q f => ?_
  cases q <;> simp [noFlags, Bool.and_comm]

theorem Tables.recompute_staged (t : Tables) (pl : Plan) (c : Cyl) (p : Port) (d : Cyl) :
    (t.recompute pl c).staged p d = t.staged p d := rfl

/-! ## A cylinder's row of the tables -/

/-- What the tables hold for one cylinder, with the staged slots of one port. -/
structure TableRow where
  contrib : Port → Contribution
  list : ActiveList
  slots : Quad (Option Pulse)

def Tables.row (t : Tables) (p : Port) (c : Cyl) : TableRow :=
  ⟨fun q => t.contribution q c, t.active.get c, t.staged p c⟩

/-- How a request replaces a contribution: from the staged slots and the contribution before. -/
abbrev Replacement := Quad (Option Pulse) → Contribution → Contribution

/-- The contributions with that of port `p` replaced. -/
def TableRow.replaced (x : TableRow) (p : Port) (g : Replacement) (q : Port) : Contribution :=
  if q = p then g x.slots (x.contrib q) else x.contrib q

/-- The row after a replacement and the recomputation that follows. -/
def TableRow.rewritten (x : TableRow) (pl : Plan) (p : Port) (g : Replacement) : TableRow :=
  let k := x.replaced p g
  { x with
    contrib := fun q => (k q).withVerdicts (pl.verdicts (k .a) (k .b)) q
    list := ⟨pl.mergeList (k .a) (k .b), x.list.revision + 1⟩ }

/-- A request on one cylinder: the contribution is replaced and the list recomputed. -/
def State.rewriteOne (s : State) (p : Port) (g : Replacement) (c : Cyl) : State :=
  (s.setTables (s.tables.setContribution p c (g (s.tables.staged p c) (s.tables.contribution p c)))).recompute c

/-- What PUBLISH puts in place of a contribution (R52). -/
def publishedFrom : Replacement := fun slots _ => ⟨.live, slots, .fill none, 0⟩

/-- What WITHDRAW puts in place of a contribution (R53). -/
def withdrawnFrom : Replacement := fun _ k => { k with state := .withdrawn }

theorem State.publishOne_eq (s : State) (p : Port) (c : Cyl) : s.publishOne p c = s.rewriteOne p publishedFrom c := rfl

theorem State.withdrawOne_eq (s : State) (p : Port) (c : Cyl) : s.withdrawOne p c = s.rewriteOne p withdrawnFrom c := rfl

section
variable (s : State) (p : Port) (g : Replacement) (c : Cyl)

theorem Tables.setContribution_replaced (t : Tables) (q : Port) (d : Cyl) :
    (t.setContribution p c (g (t.staged p c) (t.contribution p c))).contribution q d =
      if d = c then (t.row p d).replaced p g q else t.contribution q d := by
  rw [Tables.contribution_setContribution]
  by_cases same : d = c
  · subst same
    by_cases own : q = p
    · subst own
      simp [TableRow.replaced, Tables.row]
    · simp [TableRow.replaced, Tables.row, own]
  · simp [same]

theorem State.rewriteOne_row (d : Cyl) :
    (s.rewriteOne p g c).tables.row p d =
      if d = c then (s.tables.row p d).rewritten s.plan p g else s.tables.row p d := by
  unfold State.rewriteOne
  rw [State.recompute_tables, State.setTables_tables, State.setTables_plan]
  by_cases same : d = c
  · subst same
    rw [if_pos rfl, Tables.row]
    simp only [Tables.recompute_contribution, Tables.recompute_active, Tables.setContribution_replaced, if_true]
    rfl
  · rw [if_neg same, Tables.row]
    simp only [Tables.recompute_contribution, Tables.recompute_active, Tables.setContribution_replaced, if_neg same]
    rfl

/-- The pulses of port `q` that a rewriting of the row newly excludes. -/
def TableRow.excludes (x : TableRow) (pl : Plan) (p : Port) (g : Replacement) (q : Port) : Bool :=
  newlyExcluded (x.replaced p g q) ((x.rewritten pl p g).contrib q)

theorem State.rewriteOne_raised : Raised s (s.rewriteOne p g c) fun q f =>
    decide (f = .mergeExcluded) && (s.tables.row p c).excludes s.plan p g q := by
  refine raised_congr ((raised_of_ports rfl).trans (State.recompute_raised _ c)) fun q f => ?_
  simp only [noFlags, Bool.false_or, State.setTables_tables, State.setTables_plan, Tables.recompute_contribution,
    Tables.setContribution_replaced, if_true]
  rfl

end

/-! ## Over a mask (R48, R75, R76) -/

/-- The request on every cylinder of a list. -/
def State.rewriteAll (s : State) (p : Port) (g : Replacement) (l : List Cyl) : State := l.foldl (fun s c => s.rewriteOne p g c) s

theorem State.rewriteOne_plan (s : State) (p : Port) (g : Replacement) (c : Cyl) : (s.rewriteOne p g c).plan = s.plan := by
  simp [State.rewriteOne]

/-- From `s` to `t` nothing changes but contributions, active lists and ports. -/
def OnlyMerged (s t : State) : Prop :=
  ∃ k a q, t = { s with tables := { s.tables with contributions := k, active := a }, ports := q }

theorem OnlyMerged.trans {s t u : State} (first : OnlyMerged s t) (second : OnlyMerged t u) : OnlyMerged s u := by
  obtain ⟨_, _, _, rfl⟩ := first
  obtain ⟨k, a, q, rfl⟩ := second
  exact ⟨k, a, q, rfl⟩

theorem OnlyMerged.frame {s t : State} (merged : OnlyMerged s t) : t = { s with
    tables := { s.tables with contributions := t.tables.contributions, active := t.tables.active }
    ports := t.ports } := by
  obtain ⟨k, a, q, rfl⟩ := merged
  rfl

theorem onlyMerged_recompute (s : State) (c : Cyl) : OnlyMerged s (s.recompute c) := by
  refine ⟨(s.recompute c).tables.contributions, (s.recompute c).tables.active, (s.recompute c).ports, ?_⟩
  apply State.eq_of
  case tables =>
    rw [State.recompute_tables]
    rfl
  all_goals simp

theorem onlyMerged_rewriteAll (s : State) (p : Port) (g : Replacement) (l : List Cyl) : OnlyMerged s (s.rewriteAll p g l) :=
  foldl_law (law := OnlyMerged s) (fun _ c merged => merged.trans (OnlyMerged.trans ⟨_, _, _, rfl⟩ (onlyMerged_recompute _ c)))
    ⟨_, _, _, rfl⟩ l

section
variable (s : State) (p : Port) (g : Replacement) {l : List Cyl} (nodup : l.Nodup)

include nodup

theorem State.rewriteAll_row (d : Cyl) : (s.rewriteAll p g l).tables.row p d =
    if d ∈ l then (s.tables.row p d).rewritten s.plan p g else s.tables.row p d :=
  foldl_reads (law := fun u => u.plan = s.plan) (read := fun s d => s.tables.row p d)
    (update := fun _ x => x.rewritten s.plan p g) (fun u c plan => (u.rewriteOne_plan p g c).trans plan)
    (fun u c d plan => plan ▸ u.rewriteOne_row p g c d) nodup rfl d

theorem State.rewriteAll_raised : Raised s (s.rewriteAll p g l) fun q f =>
    l.any fun c => decide (f = .mergeExcluded) && (s.tables.row p c).excludes s.plan p g q :=
  foldl_raised (law := fun u => u.plan = s.plan) (read := fun s d => s.tables.row p d)
    (update := fun _ x => x.rewritten s.plan p g) (fun u c plan => (u.rewriteOne_plan p g c).trans plan)
    (fun u c d plan => plan ▸ u.rewriteOne_row p g c d)
    (flags := fun _ x q f => decide (f = .mergeExcluded) && x.excludes s.plan p g q)
    (fun u c plan => plan ▸ u.rewriteOne_raised p g c) nodup rfl

end

/-! ## The answers -/

theorem packBits_bits_testBit (bits : List Bool) (i : Nat) :
    (packBits (bits.map fun b => (1, bit b))).testBit i = bits.getD i false := by
  induction bits generalizing i with
  | nil => simp [packBits]
  | cons b bits ih =>
    rw [List.map_cons, packBits_cons_testBit]
    cases i with
    | zero => cases b <;> rfl
    | succ i => rw [if_neg (by omega), Nat.add_sub_cancel, ih, List.getD_cons_succ]

/-- The mask of the cylinders selected, as a byte. -/
theorem maskOf_byte (sel : Cyl → Bool) : ∃ m : BitVec 8, maskOf sel = m.toNat ∧ ∀ c : Cyl, m.getLsbD (c.num - 1) = sel c := by
  have packed : maskOf sel = packBits ((Cyl.all.map sel).map fun b => (1, bit b)) := by rw [maskOf, List.map_map]; rfl
  have width : ((Cyl.all.map fun c => (1, bit (sel c))).map Prod.fst).sum = 8 := rfl
  have byte : maskOf sel < 2 ^ 8 := width ▸ packBits_lt (Cyl.all.map fun c => (1, bit (sel c)))
  have number : (BitVec.ofNat 8 (maskOf sel)).toNat = maskOf sel := by
    rw [BitVec.toNat_ofNat]
    exact Nat.mod_eq_of_lt byte
  refine ⟨BitVec.ofNat 8 (maskOf sel), number.symm, fun c => ?_⟩
  rw [BitVec.getLsbD, number, packed, packBits_bits_testBit]
  cases c <;> rfl

/-- Settles O23: over the mask each row is rewritten once, and each rewriting raises the flags of its exclusions. -/
theorem publishAndWithdrawRecompute : Obligations.PublishAndWithdrawRecompute := by
  unfold Obligations.PublishAndWithdrawRecompute
  intro dt s p r rest i next which closed fits named changed
  let u := s.taken dt p rest
  let mask := maskIn r.params
  obtain ⟨g, data, runs, replaces, withdraws, publishes⟩ : ∃ (g : Replacement) (data : Data),
      exec i s = .next ((u.rewriteAll p g (cylindersIn mask)).replied p r .ok data) ∧
      (∀ c, (s.tables.row p c).replaced p g = fun q => changed q c) ∧
      (r.code = 0x14#8 → data = dataBytes [mask.toNat]) ∧
      (r.code = 0x13#8 → data = dataBytes [mask.toNat, maskOf fun c => inMask mask c &&
        ((u.rewriteAll p g (cylindersIn mask)).tables.contribution p c).hasExcluded]) := by
    obtain ⟨code, rfl⟩ | ⟨code, rfl⟩ := which
    · refine ⟨publishedFrom, _, ?_, fun c => funext fun q => ?_, fun other => by simp [code] at other, fun _ => rfl⟩
      · rw [exec_publish_eq, State.serve_of_nextIs next dt (by simp [code]), publish,
          onMask_acts (s := s.taken dt p rest) _ closed fits]
        rfl
      · simp only [TableRow.replaced, changed, code, if_true]
        by_cases own : q = p <;> simp [own, publishedFrom, Tables.row]
    · refine ⟨withdrawnFrom, _, ?_, fun c => funext fun q => ?_, fun _ => rfl, fun other => by simp [code] at other⟩
      · rw [exec_withdraw_eq, State.serve_of_nextIs next dt (by simp [code]), withdraw,
          onMask_acts (s := s.taken dt p rest) _ closed fits]
        rfl
      · simp only [TableRow.replaced, changed, code]
        by_cases own : q = p <;> simp [own, withdrawnFrom, Tables.row]
  have rows (c : Cyl) : (u.rewriteAll p g (cylindersIn mask)).tables.row p c =
      if named c = true then (s.tables.row p c).rewritten s.plan p g else s.tables.row p c := by
    have row := State.rewriteAll_row u p g (cylindersIn_nodup mask) c
    simp only [mem_cylindersIn, mask, inMask_maskIn] at row
    exact row
  have after (c : Cyl) (on : named c = true) :
      (u.rewriteAll p g (cylindersIn mask)).tables.row p c = (s.tables.row p c).rewritten s.plan p g := (rows c).trans (if_pos on)
  have rewritten (c : Cyl) : (s.tables.row p c).rewritten s.plan p g = { s.tables.row p c with
      contrib := fun q => (changed q c).withVerdicts (s.plan.verdicts (changed .a c) (changed .b c)) q
      list := ⟨s.plan.mergeList (changed .a c) (changed .b c), (s.tables.active.get c).revision + 1⟩ } := by
    rw [TableRow.rewritten, replaces]
    rfl
  have contribution (q : Port) (c : Cyl) (on : named c = true) :
      ((u.rewriteAll p g (cylindersIn mask)).tables.contribution q c) =
        ((s.tables.row p c).rewritten s.plan p g).contrib q := congrArg (TableRow.contrib · q) (after c on)
  refine ⟨_, data, _, runs, ⟨?frame, (State.rewriteAll_raised u p g (cylindersIn_nodup mask)).replied p r .ok data⟩,
    fun c on => ?named, fun c off => ?others, fun q f => ?flags, fun code => ?withdrawn, fun code => ?published⟩
  case frame => exact congrArg (State.replied · p r .ok data) (onlyMerged_rewriteAll u p g (cylindersIn mask)).frame
  case named =>
    refine ⟨?_, fun q => ?_⟩
    · refine (congrArg TableRow.list (after c on)).trans ?_
      rw [rewritten]
    · refine (contribution q c on).trans ?_
      rw [rewritten]
  case others =>
    have row := (rows c).trans (if_neg (Bool.eq_false_iff.mp off))
    exact ⟨congrArg TableRow.list row, fun q => congrArg (TableRow.contrib · q) row⟩
  case flags =>
    simp only [List.any_eq_true, Bool.and_eq_true, decide_eq_true_iff, mem_cylindersIn, mask, inMask_maskIn]
    rw [← exists_and_left]
    refine exists_congr fun c => (and_left_comm).trans (and_congr_right fun _ => and_congr_right fun on => ?_)
    have excluded : (s.tables.row p c).excludes s.plan p g q =
        newlyExcluded (changed q c) ((u.rewriteAll p g (cylindersIn mask)).tables.contribution q c) := by
      rw [contribution q c on, TableRow.excludes, replaces]
    exact (congrArg (· = true) excluded).to_iff
  case withdrawn => rw [withdraws code, maskIn_toNat]
  case published =>
    obtain ⟨m, number, bits⟩ := maskOf_byte fun c => inMask mask c &&
      ((u.rewriteAll p g (cylindersIn mask)).tables.contribution p c).hasExcluded
    refine ⟨m, ?_, fun c => ?_⟩
    · rw [publishes code, number, maskIn_toNat]
    · rw [bits c, inMask_maskIn]
      rfl

end Sys2Proof.Machine
end

section
/-! SUPPORT. The arming notice: the answer, the ages, the expiries with their flags, and the recomputation they bring. -/

namespace Sys2Proof.Machine

theorem State.flagExpiry_raised (s : State) (on : Bool) (p : Port) : Raised s (s.flagExpiry on p) fun q f =>
    on && (decide (f = .contribExpired) && decide (q = p) || decide (f = .peerExpired) && decide (q = p.other)) :=
  raised_congr ((raised_raiseIf s on p .contribExpired).trans (raised_raiseIf _ on p.other .peerExpired)) fun q f => by
    cases on <;> simp [Bool.and_comm]

/-- The contribution that steps 2 and 3 of a notice leave to the recomputation (R55, R56). -/
def State.steppedAt (s : State) (c : Cyl) (q : Port) : Contribution :=
  (s.tables.contribution q c).aged.expire (s.plan.limits.val.freshness.get q)

/-- The tables after steps 2 and 3, before a recomputation. -/
def State.steppedTables (s : State) (c : Cyl) : Tables := (s.tables.ageAndExpire s.plan .a c).ageAndExpire s.plan .b c

theorem State.steppedTables_contribution (s : State) (c : Cyl) (q : Port) (d : Cyl) :
    (s.steppedTables c).contribution q d = if d = c then s.steppedAt c q else s.tables.contribution q d := by
  refine (Tables.ageAndExpire_both s.tables s.plan c q d).trans ?_
  by_cases same : d = c
  · subst same
    rfl
  · rw [if_neg same, if_neg same]

theorem State.steppedTables_active (s : State) (c : Cyl) : (s.steppedTables c).active = s.tables.active := rfl

/-- The state after steps 2 and 3 with their flags, before a recomputation. -/
def State.stepped (s : State) (c : Cyl) : State :=
  ((s.setTables (s.steppedTables c)).flagExpiry (s.expires .a c) .a).flagExpiry (s.expires .b c) .b

theorem State.stepAges_eq (s : State) (c : Cyl) :
    s.stepAges c = if s.expires .a c || s.expires .b c then (s.stepped c).recompute c else s.stepped c := rfl

theorem State.stepped_tables (s : State) (c : Cyl) : (s.stepped c).tables = s.steppedTables c := by simp [State.stepped]

theorem State.stepped_plan (s : State) (c : Cyl) : (s.stepped c).plan = s.plan := by simp [State.stepped]

theorem State.stepped_raised (s : State) (c : Cyl) : Raised s (s.stepped c) fun q f =>
    decide (f = .contribExpired) && s.expires q c || decide (f = .peerExpired) && s.expires q.other c := by
  refine raised_congr ((raised_of_ports (t := s.setTables (s.steppedTables c)) rfl).trans
    ((State.flagExpiry_raised _ (s.expires .a c) .a).trans (State.flagExpiry_raised _ (s.expires .b c) .b))) fun q f => ?_
  cases q <;> simp [noFlags, Port.other, Bool.and_comm, Bool.or_comm]

theorem onlyMerged_stepped (s : State) (c : Cyl) : OnlyMerged s (s.stepped c) := by
  refine ⟨(s.steppedTables c).contributions, (s.steppedTables c).active, (s.stepped c).ports, ?_⟩
  apply State.eq_of
  case tables =>
    rw [State.stepped_tables]
    rfl
  all_goals simp [State.stepped]

theorem onlyMerged_stepAges (s : State) (c : Cyl) : OnlyMerged s (s.stepAges c) := by
  rw [State.stepAges_eq]
  split
  · exact (onlyMerged_stepped s c).trans (onlyMerged_recompute _ c)
  · exact onlyMerged_stepped s c

theorem newlyExcluded_self (k : Contribution) : newlyExcluded k k = false := by
  simp [newlyExcluded, Four.all]

/-- What a notice raises: the expiries, and what the recomputation newly excludes (R57, R74). -/
theorem State.stepAges_raised (s : State) (c : Cyl) : Raised s (s.stepAges c) fun q f =>
    decide (f = .contribExpired) && s.expires q c || decide (f = .peerExpired) && s.expires q.other c ||
      decide (f = .mergeExcluded) && newlyExcluded (s.steppedAt c q) ((s.stepAges c).tables.contribution q c) := by
  rw [State.stepAges_eq]
  split
  · refine raised_congr ((State.stepped_raised s c).trans (State.recompute_raised _ c)) fun q f => ?_
    rw [State.recompute_tables, State.stepped_tables, State.stepped_plan, State.steppedTables_contribution, if_pos rfl]
  · refine raised_congr (State.stepped_raised s c) fun q f => ?_
    rw [State.stepped_tables, State.steppedTables_contribution, if_pos rfl, newlyExcluded_self, Bool.and_false, Bool.or_false]

/-- Settles O26: the notice is answered, then the ages step; a recomputation follows where a contribution has expired. -/
theorem armingNoticeAnswersAndExpires : Obligations.ArmingNoticeAnswersAndExpires := by
  unfold Obligations.ArmingNoticeAnswersAndExpires
  intro dt c s a armed unanswered stepped limit expires left vs
  let u := (s.advance dt).setLane c { s.lane c with arming := some { a with answer := some (s.armingAnswer c) } }
  have takes : exec (.armingNotice dt c) s = .next (u.stepAges c) := by
    rw [exec_armingNotice, State.takeNotice_of_unanswered (s := s.advance dt) armed unanswered]
    rfl
  have tables : (u.stepAges c).tables =
      if expires .a || expires .b then (u.steppedTables c).recompute s.plan c else u.steppedTables c := u.stepAges_tables c
  have read (q : Port) (d : Cyl) : (u.steppedTables c).contribution q d = if d = c then left q else s.tables.contribution q d :=
    u.steppedTables_contribution c q d
  have readAt (q : Port) : (u.steppedTables c).contribution q c = left q := (read q c).trans (if_pos rfl)
  refine ⟨_, _, takes, (raised_of_ports (t := u) rfl).trans (u.stepAges_raised c), (onlyMerged_stepAges u c).frame,
    fun d other => ?others, fun freshA freshB => ?fresh, fun any => ?expired, fun q f => ?flags⟩
  case others =>
    rw [tables]
    split
    · refine ⟨?_, fun q => ?_⟩
      · rw [Tables.recompute_active, if_neg other]
        rfl
      · rw [Tables.recompute_contribution, if_neg other, read, if_neg other]
    · exact ⟨rfl, fun q => (read q d).trans (if_neg other)⟩
  case fresh =>
    rw [tables, freshA, freshB]
    refine ⟨rfl, fun q => (readAt q).trans ?_⟩
    cases q
    · exact if_neg (by rw [freshA]; decide)
    · exact if_neg (by rw [freshB]; decide)
  case expired =>
    have recomputes : (expires .a || expires .b) = true := Bool.or_eq_true_iff.mpr any
    rw [tables, if_pos recomputes]
    refine ⟨?_, fun q => ?_⟩
    · rw [Tables.recompute_active, if_pos rfl, readAt, readAt]
      rfl
    · rw [Tables.recompute_contribution, if_pos rfl, readAt, readAt, readAt]
  case flags =>
    simp only [noFlags, Bool.false_or, Bool.or_eq_true, Bool.and_eq_true, decide_eq_true_iff, or_assoc]
    exact Iff.rfl

end Sys2Proof.Machine
end

section
/-! SUPPORT. The merge: sorting, the candidates, the judging in order, and the bounds of the merged list. -/

namespace Sys2Proof.Machine

/-! ## Sorting -/

section
variable {before : Merged → Merged → Bool}

theorem insertBy_perm (x : Merged) (l : List Merged) : (insertBy before x l).Perm (x :: l) := by
  induction l with
  | nil => exact .refl _
  | cons y l ih =>
    unfold insertBy
    split
    · exact .refl _
    · exact (ih.cons y).trans (.swap x y l)

theorem sortBy_perm (l : List Merged) : (sortBy before l).Perm l := by
  induction l with
  | nil => exact .refl _
  | cons x l ih => exact (insertBy_perm x _).trans (ih.cons x)

variable {R : Merged → Merged → Prop} (trans : ∀ x y z, R x y → R y z → R x z)
include trans

theorem insertBy_pairwise {x : Merged} {l : List Merged} (decides : ∀ y ∈ l, if before x y then R x y else R y x)
    (sorted : l.Pairwise R) : (insertBy before x l).Pairwise R := by
  induction l with
  | nil => simp [insertBy]
  | cons y l ih =>
    obtain ⟨first, rest⟩ := List.pairwise_cons.mp sorted
    have here := decides y List.mem_cons_self
    unfold insertBy
    split
    · next precedes =>
      rw [if_pos precedes] at here
      exact List.pairwise_cons.mpr ⟨List.forall_mem_cons.mpr ⟨here, fun z mem => trans _ _ _ here (first z mem)⟩, sorted⟩
    · next follows =>
      rw [if_neg follows] at here
      refine List.pairwise_cons.mpr ⟨fun z mem => ?_, ih (fun z mem => decides z (List.mem_cons_of_mem _ mem)) rest⟩
      obtain rfl | mem := List.mem_cons.mp ((insertBy_perm x l).mem_iff.mp mem)
      · exact here
      · exact first z mem

/-- Sorting by a test that decides between any two elements of the list. -/
theorem sortBy_pairwise {l : List Merged} (decides : l.Pairwise fun x y => if before x y then R x y else R y x) :
    (sortBy before l).Pairwise R := by
  induction l with
  | nil => exact .nil
  | cons x l ih =>
    obtain ⟨first, rest⟩ := List.pairwise_cons.mp decides
    exact insertBy_pairwise trans (fun y mem => first y ((sortBy_perm l).mem_iff.mp mem)) (ih rest)

end

/-! ## Candidates (R64) -/

theorem Contribution.mem_candidates {k : Contribution} {p : Port} {m : Merged} :
    m ∈ k.candidates p ↔ k.state = .live ∧ m.port = p ∧ k.pulses.get m.slot = some m.pulse := by
  unfold Contribution.candidates
  obtain ⟨pulse, port, slot⟩ := m
  by_cases live : k.state = .live
  · rw [if_pos live, List.mem_filterMap]
    constructor
    · rintro ⟨i, -, found⟩
      obtain ⟨u, holds, same⟩ := Option.map_eq_some_iff.mp found
      cases same
      exact ⟨live, rfl, holds⟩
    · rintro ⟨-, rfl, holds⟩
      exact ⟨slot, four_mem_all slot, Option.map_eq_some_iff.mpr ⟨pulse, holds, rfl⟩⟩
  · simp [live]

/-- Candidates of one contribution differ in their slots. -/
theorem Contribution.candidates_pairwise (k : Contribution) (p : Port) : (k.candidates p).Pairwise fun x y => x.slot ≠ y.slot := by
  unfold Contribution.candidates
  split
  · refine List.pairwise_filterMap.mpr (List.Pairwise.imp ?_ (show Four.all.Pairwise (· ≠ ·) by decide))
    intro i j differ x atI y atJ
    obtain ⟨_, -, rfl⟩ := Option.map_eq_some_iff.mp atI
    obtain ⟨_, -, rfl⟩ := Option.map_eq_some_iff.mp atJ
    exact differ
  · exact .nil

/-- The candidates of a merge. -/
def candidatesOf (ka kb : Contribution) : List Merged := ka.candidates .a ++ kb.candidates .b

theorem candidatesOf_pairwise (ka kb : Contribution) : (candidatesOf ka kb).Pairwise fun x y => x.port ≠ y.port ∨ x.slot ≠ y.slot := by
  refine List.pairwise_append.mpr ⟨(ka.candidates_pairwise .a).imp .inr, (kb.candidates_pairwise .b).imp .inr, fun x inA y inB => ?_⟩
  obtain ⟨-, portA, -⟩ := Contribution.mem_candidates.mp inA
  obtain ⟨-, portB, -⟩ := Contribution.mem_candidates.mp inB
  exact .inl (by rw [portA, portB]; decide)

/-- The contribution of port `q`, of the two of a merge. -/
def ofPort (ka kb : Contribution) : Port → Contribution
  | .a => ka
  | .b => kb

theorem mem_candidatesOf {ka kb : Contribution} {m : Merged} : m ∈ candidatesOf ka kb ↔
    (ofPort ka kb m.port).state = .live ∧ (ofPort ka kb m.port).pulses.get m.slot = some m.pulse := by
  unfold candidatesOf
  rw [List.mem_append, Contribution.mem_candidates, Contribution.mem_candidates]
  cases port : m.port <;> simp [ofPort]

/-! ## Judging in order (R67) -/

/-- A candidate is judged by how many pulses are accepted and which. -/
theorem Plan.judge_perm (pl : Plan) {accepted accepted' : List Merged} (perm : accepted.Perm accepted') (m : Merged) :
    pl.judge accepted m = pl.judge accepted' m := by
  have any (f : Merged → Bool) : accepted.any f = accepted'.any f := by
    rw [Bool.eq_iff_iff, List.any_eq_true, List.any_eq_true]
    simp only [perm.mem_iff]
  unfold Plan.judge
  rw [perm.length_eq, any, any]

theorem Plan.judgeAll_fst (pl : Plan) (accepted ms : List Merged) : (pl.judgeAll accepted ms).map Prod.fst = ms := by
  induction ms generalizing accepted with
  | nil => rfl
  | cons m ms ih => rw [Plan.judgeAll, List.map_cons, ih]

theorem mem_acceptedOf {vs : List (Merged × Verdict)} {m : Merged} : m ∈ acceptedOf vs ↔ (m, .accepted) ∈ vs := by
  unfold acceptedOf
  rw [List.mem_filterMap]
  constructor
  · rintro ⟨⟨m', v⟩, mem, some⟩
    dsimp only at some
    split at some
    · next accepted =>
      obtain rfl : m' = m := Option.some.inj some
      rwa [← accepted]
    · cases some
  · exact fun mem => ⟨(m, .accepted), mem, if_pos rfl⟩

/-- The verdicts on the candidates before position `i` decide the one at `i`. -/
theorem Plan.judgeAll_get (pl : Plan) {accepted ms : List Merged} {i : Nat} {m : Merged} {v : Verdict}
    (found : (pl.judgeAll accepted ms)[i]? = some (m, v)) :
    v = pl.judge (acceptedOf ((pl.judgeAll accepted ms).take i) ++ accepted) m := by
  induction ms generalizing accepted i with
  | nil => cases found
  | cons n ms ih =>
    cases i with
    | zero =>
      cases found
      rfl
    | succ i =>
      rw [ih found, Plan.judgeAll, List.take_succ_cons]
      refine pl.judge_perm ?_ m
      by_cases takes : pl.judge accepted n = .accepted
      · simp only [takes, if_true, acceptedOf, List.filterMap_cons]
        exact List.perm_middle
      · simp [takes, acceptedOf]

/-- Accepted pulses as the bounds of R68 to R70 want them: at most six, far enough apart, with one MAIN. -/
def WithinBounds (pl : Plan) (accepted : List Merged) : Prop :=
  accepted.length ≤ 6 ∧ accepted.Pairwise (fun x y => pl.tooClose x y = false) ∧
    accepted.Pairwise fun x y => ¬(x.pulse.kind = .main ∧ y.pulse.kind = .main)

theorem Plan.judge_accepted {pl : Plan} {accepted : List Merged} {m : Merged} (takes : pl.judge accepted m = .accepted) :
    accepted.length < 6 ∧ (∀ a ∈ accepted, pl.tooClose m a = false) ∧
      ∀ a ∈ accepted, ¬(m.pulse.kind = .main ∧ a.pulse.kind = .main) := by
  unfold Plan.judge at takes
  split at takes
  · cases takes
  split at takes
  · cases takes
  split at takes
  · cases takes
  next room apart single =>
  refine ⟨Nat.lt_of_not_le room, fun a mem => ?_, fun a mem both => single ⟨both.1, ?_⟩⟩
  · exact Bool.eq_false_iff.mpr fun close => apart (List.any_eq_true.mpr ⟨a, mem, close⟩)
  · exact List.any_eq_true.mpr ⟨a, mem, decide_eq_true both.2⟩

/-- Judging keeps what is accepted within the bounds. -/
theorem WithinBounds.judgeAll {pl : Plan} {accepted : List Merged} (within : WithinBounds pl accepted) (ms : List Merged) :
    WithinBounds pl ((acceptedOf (pl.judgeAll accepted ms)).reverse ++ accepted) := by
  induction ms generalizing accepted with
  | nil => exact within
  | cons m ms ih =>
    rw [Plan.judgeAll]
    by_cases takes : pl.judge accepted m = .accepted
    · obtain ⟨count, apart, single⟩ := within
      obtain ⟨room, far, other⟩ := Plan.judge_accepted takes
      have next := ih (accepted := m :: accepted)
        ⟨room, List.pairwise_cons.mpr ⟨far, apart⟩, List.pairwise_cons.mpr ⟨other, single⟩⟩
      simpa [takes, acceptedOf] using next
    · simpa [takes, acceptedOf] using ih within

/-! ## The merged list (R63, R71) -/

theorem Plan.mem_mergeList {pl : Plan} {ka kb : Contribution} {m : Merged} :
    m ∈ pl.mergeList ka kb ↔ (m, .accepted) ∈ pl.verdicts ka kb := by
  rw [Plan.mergeList, (sortBy_perm _).mem_iff, mem_acceptedOf]

theorem Plan.verdicts_fst_perm (pl : Plan) (ka kb : Contribution) :
    ((pl.verdicts ka kb).map Prod.fst).Perm (candidatesOf ka kb) := by
  rw [Plan.verdicts, Plan.judgeAll_fst]
  exact sortBy_perm _

theorem Plan.judged_iff {pl : Plan} {ka kb : Contribution} {m : Merged} :
    (∃ v, (m, v) ∈ pl.verdicts ka kb) ↔ m ∈ candidatesOf ka kb := by
  rw [← (pl.verdicts_fst_perm ka kb).mem_iff]
  simp

theorem Plan.tooClose_comm (pl : Plan) (x y : Merged) : pl.tooClose x y = pl.tooClose y x := by
  unfold Plan.tooClose
  congr 2
  omega

theorem Plan.mergeList_withinBounds (pl : Plan) (ka kb : Contribution) : WithinBounds pl (pl.mergeList ka kb) := by
  have bounds : WithinBounds pl [] := ⟨by decide, .nil, .nil⟩
  have perm : (pl.mergeList ka kb).Perm ((acceptedOf (pl.verdicts ka kb)).reverse ++ []) := by
    rw [List.append_nil]
    exact (sortBy_perm _).trans (List.reverse_perm _).symm
  obtain ⟨count, apart, single⟩ := bounds.judgeAll (sortBy pl.ranksBefore (ka.candidates .a ++ kb.candidates .b))
  refine ⟨perm.length_eq ▸ count, (perm.pairwise_iff ?_).mpr apart, (perm.pairwise_iff ?_).mpr single⟩
  · exact fun far => pl.tooClose_comm _ _ ▸ far
  · exact fun other both => other both.symm

/-- The list is in the order of start angles. -/
theorem Plan.mergeList_sorted (pl : Plan) (ka kb : Contribution) :
    (pl.mergeList ka kb).Pairwise fun x y => x.pulse.start ≤ y.pulse.start := by
  refine sortBy_pairwise (R := fun x y => x.pulse.start ≤ y.pulse.start) (fun _ _ _ => Int.le_trans) (List.pairwise_of_forall fun x y => ?_)
  unfold startsBefore
  split
  · next less => exact Int.le_of_lt (of_decide_eq_true less)
  · next other => exact Int.not_lt.mp (mt decide_eq_true other)

/-- The judging goes in ranking order (R65). -/
theorem Plan.verdicts_ranked (pl : Plan) (ka kb : Contribution) :
    (pl.verdicts ka kb).Pairwise fun x y => x.1 ≠ y.1 ∧ pl.ranksBefore x.1 y.1 = true := by
  have ranked : ((pl.verdicts ka kb).map Prod.fst).Pairwise fun x y => pl.ranksBefore x y = true := by
    rw [Plan.verdicts, Plan.judgeAll_fst]
    refine sortBy_pairwise (R := fun x y => pl.ranksBefore x y = true) (fun _ _ _ => Plan.ranksBefore_trans)
      ((candidatesOf_pairwise ka kb).imp fun {x y} differ => ?_)
    split
    · assumption
    · next other =>
      exact (Plan.ranksBefore_iff_not_swap (differ.imp Ne.symm Ne.symm)).mpr (Bool.eq_false_iff.mpr other)
  have distinct : ((pl.verdicts ka kb).map Prod.fst).Pairwise (· ≠ ·) := by
    refine ((pl.verdicts_fst_perm ka kb).pairwise_iff Ne.symm).mpr ((candidatesOf_pairwise ka kb).imp fun differ same => ?_)
    exact differ.elim (absurd (congrArg Merged.port same)) (absurd (congrArg Merged.slot same))
  exact (List.pairwise_map.mp distinct).and (List.pairwise_map.mp ranked)

theorem acceptedOf_eq (vs : List (Merged × Verdict)) :
    acceptedOf vs = (vs.filter fun x => decide (x.2 = .accepted)).map Prod.fst := by
  induction vs with
  | nil => rfl
  | cons v vs ih => by_cases accepted : v.2 = .accepted <;> simp_all [acceptedOf]

/-! ## The verdicts a contribution receives (R72) -/

section
variable {pl : Plan} {ka kb : Contribution} {q : Port} {i : SlotIx}

/-- A slot without a pulse has no verdict. -/
theorem verdictAt_none (none : (ofPort ka kb q).pulses.get i = none) : verdictAt (pl.verdicts ka kb) q i = .none := by
  unfold verdictAt
  rw [Option.map_eq_none_iff, List.find?_eq_none]
  rintro ⟨m, v⟩ mem found
  obtain ⟨rfl, rfl⟩ := of_decide_eq_true found
  obtain ⟨-, pulse⟩ := mem_candidatesOf.mp (Plan.judged_iff.mp ⟨v, mem⟩)
  rw [none] at pulse
  cases pulse

/-- A pulse of a LIVE contribution has the verdict of its candidate. -/
theorem verdictAt_some {u : Pulse} (live : (ofPort ka kb q).state = .live) (holds : (ofPort ka kb q).pulses.get i = some u) :
    ∃ v, verdictAt (pl.verdicts ka kb) q i = some v ∧ (⟨u, q, i⟩, v) ∈ pl.verdicts ka kb := by
  obtain ⟨w, judged⟩ := (Plan.judged_iff (pl := pl)).mpr (mem_candidatesOf.mpr ⟨live, holds⟩ : (⟨u, q, i⟩ : Merged) ∈ candidatesOf ka kb)
  have isSome : ((pl.verdicts ka kb).find? fun v => decide (v.1.port = q ∧ v.1.slot = i)).isSome :=
    List.find?_isSome.mpr ⟨_, judged, decide_eq_true ⟨rfl, rfl⟩⟩
  obtain ⟨⟨m, v⟩, found⟩ := Option.isSome_iff_exists.mp isSome
  have mem := List.mem_of_find?_eq_some found
  obtain ⟨rfl, rfl⟩ : m.port = q ∧ m.slot = i := by simpa using List.find?_some found
  obtain ⟨-, pulse⟩ := mem_candidatesOf.mp (Plan.judged_iff.mp ⟨v, mem⟩)
  obtain rfl : m.pulse = u := Option.some.inj (pulse.symm.trans holds)
  exact ⟨v, by rw [verdictAt, found]; rfl, mem⟩

end

theorem Contribution.withVerdicts_get {k : Contribution} (live : k.state = .live) (vs : List (Merged × Verdict)) (q : Port)
    (i : SlotIx) : (k.withVerdicts vs q).verdicts.get i = verdictAt vs q i := by
  rw [Contribution.withVerdicts, if_pos live]
  cases i <;> rfl

/-- Settles O28: the accepted pulses keep the bounds, the judging goes over the ranked candidates, and each pulse has its verdict. -/
theorem mergedListKeepsItsBounds : Obligations.MergedListKeepsItsBounds := by
  unfold Obligations.MergedListKeepsItsBounds
  intro pl ka kb _ l vs candidate
  obtain ⟨count, apart, single⟩ := pl.mergeList_withinBounds ka kb
  have candidateIff (m : Merged) : m ∈ candidatesOf ka kb ↔ candidate m := by
    rw [mem_candidatesOf]
    cases port : m.port <;> simp [candidate, ofPort, port]
  refine ⟨count, ?spaced, single, fun m mem => ?fromCandidates, fun m => Plan.mem_mergeList, fun m => ?judged, pl.verdicts_ranked ka kb,
    fun i m v found => ?inOrder,
    fun q => ⟨fun dead => if_neg dead, fun live => ⟨?kept, fun i => ⟨fun none => ?unset, fun u holds => ?set⟩⟩⟩,
    fun accepted m => ?rules⟩
  case spaced =>
    refine ((pl.mergeList_sorted ka kb).and apart).imp fun {x y} both => ?_
    obtain ⟨sorted, far⟩ := both
    have := of_decide_eq_false far
    omega
  case fromCandidates => exact (candidateIff m).mp (Plan.judged_iff.mp ⟨_, Plan.mem_mergeList.mp mem⟩)
  case judged => exact Plan.judged_iff.trans (candidateIff m)
  case inOrder =>
    rw [← acceptedOf_eq, pl.judgeAll_get found, List.append_nil]
    rfl
  case kept =>
    rw [Contribution.withVerdicts, if_pos live]
  case unset =>
    rw [Contribution.withVerdicts_get live]
    cases q
    · exact verdictAt_none (q := .a) none
    · exact verdictAt_none (q := .b) none
  case set =>
    rw [Contribution.withVerdicts_get live]
    cases q
    · exact verdictAt_some (q := .a) live holds
    · exact verdictAt_some (q := .b) live holds
  case rules =>
    unfold Plan.judge Plan.tooClose
    simp only [List.any_eq_true, decide_eq_true_eq]

end Sys2Proof.Machine
end

section
/-! SUPPORT. Where arming points and start points lie (R22, R23). -/

namespace Sys2Proof.Machine

/-- `nextAt` is the least position from `low` on at the angle. -/
theorem nextAt_ge (low x : Nat) : low ≤ nextAt low x := Nat.le_add_right _ _

theorem nextAt_mod (low x : Nat) : nextAt low x % 11520 = x % 11520 := by
  unfold nextAt cycleSteps
  omega

theorem nextAt_least {low x y : Nat} (above : low ≤ y) (angle : y % 11520 = x % 11520) : nextAt low x ≤ y := by
  unfold nextAt cycleSteps
  omega

/-- The least position the next arming point may take (R2, R22). -/
def Tracker.armingFrom (t : Tracker) (c : Cyl) : Nat :=
  max (t.marks.watchFrom + 1) (max (((t.marks.armedAt.get c).map (· + 1)).getD 0) (t.marks.withheldTo.get c))

theorem Tracker.nextArming_eq (t : Tracker) (w : WorkingCopy) (c : Cyl) :
    t.nextArming w c = nextAt (t.armingFrom c) (w.armAngle c) := rfl

theorem Tracker.armingFrom_le_iff (t : Tracker) (c : Cyl) (y : Nat) : t.armingFrom c ≤ y ↔
    t.marks.watchFrom < y ∧ (∀ a, t.marks.armedAt.get c = some a → a < y) ∧ t.marks.withheldTo.get c ≤ y := by
  unfold Tracker.armingFrom
  rw [Nat.max_le, Nat.max_le]
  refine and_congr Nat.succ_le_iff (and_congr_left fun _ => ?_)
  cases t.marks.armedAt.get c <;> simp

/-- An angle is that of the arming point where it is the TDC less the arming advance. -/
theorem WorkingCopy.armAngle_iff {w : WorkingCopy} {c : Cyl} (advance : w.advance ≤ 5760) (y : Nat) :
    y % 11520 = w.armAngle c % 11520 ↔ ((y : Int) - ((w.tdc.get c : Int) - w.advance)) % 11520 = 0 := by
  unfold WorkingCopy.armAngle cycleSteps
  omega

/-- Settles O30: the next arming point is the least position its bounds allow, and the other points follow from it. -/
theorem pointsLieWhereThePlanPutsThem : Obligations.PointsLieWhereThePlanPutsThem := by
  unfold Obligations.PointsLieWhereThePlanPutsThem
  refine ⟨?arming, fun r q within => ?start, fun _ _ => rfl, fun dt s pos => s.advance_pointReached_iff dt pos⟩
  case arming =>
    intro t w c _ advance x
    obtain ⟨watched, armed, withheld⟩ := (t.armingFrom_le_iff c x).mp (nextAt_ge _ _)
    refine ⟨(WorkingCopy.armAngle_iff advance x).mp (nextAt_mod _ _), watched, armed, withheld, fun y watched armed withheld angle => ?_⟩
    exact nextAt_least ((t.armingFrom_le_iff c y).mpr ⟨watched, armed, withheld⟩) ((WorkingCopy.armAngle_iff advance y).mpr angle)
  case start =>
    unfold Record.startPos
    omega

end Sys2Proof.Machine
end

section
/-! SUPPORT. The cycle unit's lanes: the arming point, the answer, drops, start points, deadlines and the dwell. -/

namespace Sys2Proof.Machine

/-! ## Messages of a record (R85, R108) -/

theorem map_filter_eq_filterMap {α β : Type} {p : α → Bool} {f : α → β} {g : α → Option β}
    (same : ∀ x, g x = if p x then some (f x) else none) (l : List α) : (l.filter p).map f = l.filterMap g := by
  rw [funext same]
  induction l with
  | nil => rfl
  | cons x l ih => by_cases holds : p x <;> simp_all

theorem Record.removals_eq (r : Record) (b : Bank) (c : Cyl) :
    r.removals b c = r.pulses.zipIdx.filterMap fun x => match x.1.state with
      | .due _ _ .bank => some (.removal b ⟨c, r.cycle, x.2, x.1.merged.pulse.kind⟩)
      | _ => none := by
  refine map_filter_eq_filterMap (fun x => ?_) _
  cases state : x.1.state with
  | due since limit blocker => cases blocker <;> rfl
  | _ => rfl

theorem Record.cuts_eq (r : Record) (b : Bank) (c : Cyl) :
    r.cuts b c = r.pulses.zipIdx.filterMap fun x => match x.1.state with
      | .energized _ => some (.cut b (.scheduled ⟨c, r.cycle, x.2, x.1.merged.pulse.kind⟩))
      | _ => none := by
  refine map_filter_eq_filterMap (fun x => ?_) _
  cases state : x.1.state <;> rfl

/-- The pulse that drives is cut, and any other stands (R85). -/
theorem ArmedPulse.cutAt_eq (now : Nat) : ArmedPulse.cutAt now = fun q => match q.state with
    | .energized granted => { q with state := .cut, energized := now - granted }
    | _ => q := by
  funext q
  unfold ArmedPulse.cutAt
  cases q.state <;> rfl

/-! ## Flags on the ports of origin (R98) -/

theorem any_waiting_iff (o : Option Record) (q : Port) :
    ((o.elim [] Record.waiting).any fun p => decide (p.merged.port = q)) = true ↔
      ∃ r, o = some r ∧ ∃ u ∈ r.pulses, u.merged.port = q ∧ u.state.waits = true := by
  cases o <;> simp [Record.waiting, and_comm]

theorem any_driving_iff (o : Option Record) (q : Port) :
    ((o.elim [] Record.driving).any fun p => decide (p.merged.port = q)) = true ↔
      ∃ r, o = some r ∧ ∃ u ∈ r.pulses, u.merged.port = q ∧ u.state.drives = true := by
  cases o <;> simp [Record.driving, and_comm]

/-! ## The arming point (R85) -/

theorem exec_armingPoint (dt : Nat) (c : Cyl) (s : State) : exec (.armingPoint dt c) s = .next ((s.advance dt).armPoint c) := rfl

theorem State.armingReached_iff (s : State) (w : WorkingCopy) (c : Cyl) : s.armingReached w c = true ↔
    c.num ≤ w.count ∧ (s.lane c).arming = none ∧ PointAtHand s s.now (s.tracker.nextArming w c) := by
  simp [State.armingReached, State.pointReached_iff, and_assoc]

/-- The lane after steps 1 and 2 of an arming (R85). -/
def Lane.oldCycleClosed (l : Lane) (b : Bank) (c : Cyl) (now : Nat) : Lane := (l.cutSuperseded b c now).overrunCurrent b c

theorem Lane.oldCycleClosed_eq (l : Lane) (b : Bank) (c : Cyl) (now : Nat) :
    let cutOff := fun r : Record => { r with pulses := r.pulses.map (ArmedPulse.cutAt now) }
    l.oldCycleClosed b c now = { l with
      current := none
      superseded := match l.current with | some r => if r.drives then some (r.drop .overrun) else none | none => none
      last := match l.current, l.superseded with
        | some r, some x => if r.drives then some (cutOff x) else some (r.drop .overrun)
        | some r, none => if r.drives then l.last else some (r.drop .overrun)
        | none, some x => some (cutOff x)
        | none, none => l.last
      outbox := l.outbox ++ (match l.superseded with | some x => x.cuts b c | none => []) ++
        (match l.current with | some r => r.removals b c | none => []) } := by
  obtain ⟨current, superseded, last, injector, arming, outbox⟩ := l
  cases superseded <;> cases current
  · simp [Lane.oldCycleClosed, Lane.cutSuperseded, Lane.overrunCurrent]
  · next r => cases drives : r.drives <;> simp [Lane.oldCycleClosed, Lane.cutSuperseded, Lane.overrunCurrent, Lane.send, drives]
  · simp [Lane.oldCycleClosed, Lane.cutSuperseded, Lane.overrunCurrent, Lane.send]
  · next x r =>
    cases drives : r.drives <;> simp [Lane.oldCycleClosed, Lane.cutSuperseded, Lane.overrunCurrent, Lane.send, drives]

theorem State.closeOldCycle_raised (s : State) (c : Cyl) : Raised s (s.closeOldCycle c) fun q f =>
    (decide (f = .pulseCut) && ((s.lane c).superseded.elim [] Record.driving).any fun p => decide (p.merged.port = q)) ||
      (decide (f = .pulseDropped) && ((s.lane c).current.elim [] Record.waiting).any fun p => decide (p.merged.port = q)) :=
  raised_congr ((raised_of_ports (t := s.setLane c ((s.lane c).oldCycleClosed (s.plan.bankOf c) c s.now)) rfl).trans
    ((raised_raiseOrigins _ .pulseCut ((s.lane c).superseded.elim [] Record.driving)).trans
      (raised_raiseOrigins _ .pulseDropped ((s.lane c).current.elim [] Record.waiting)))) fun q f => by simp [noFlags]

theorem State.closeOldCycle_lanes (s : State) (c : Cyl) :
    (s.closeOldCycle c).lanes = s.lanes.set c ((s.lane c).oldCycleClosed (s.plan.bankOf c) c s.now) := by
  simp only [State.closeOldCycle, State.raiseOrigins_lanes]
  rfl

theorem State.beginArming_lanes (s : State) (c : Cyl) (pos advance : Nat) :
    (s.beginArming c pos advance).lanes =
      s.lanes.set c { s.lane c with arming := some ⟨s.tracker.cycles, pos, advance, none, none⟩ } := rfl

/-- Settles O31: a point that is not at hand is left, and one that is closes the old cycle and begins the arming. -/
theorem armingPointClosesOldCycle : Obligations.ArmingPointClosesOldCycle := by
  unfold Obligations.ArmingPointClosesOldCycle
  refine ⟨fun r b c => ⟨r.removals_eq b c, r.cuts_eq b c⟩, fun dt c s away => ?away, ?delivered⟩
  case away =>
    rw [exec_armingPoint, State.armPoint, State.advance_tracker]
    cases copy : s.tracker.copy with
    | none => rfl
    | some w =>
      have unreached : ¬(s.advance dt).armingReached w c = true := fun reached => by
        obtain ⟨used, idle, atHand⟩ := ((s.advance dt).armingReached_iff w c).mp reached
        obtain beyond | busy | far := away w copy
        · exact absurd used (Nat.not_le.mpr beyond)
        · exact busy idle
        · exact far atHand
      exact congrArg _ (if_neg unreached)
  case delivered =>
    intro dt c s w copy used idle atHand l b now pos overrun cutOff
    let u := s.advance dt
    have arms : exec (.armingPoint dt c) s = .next ((u.closeOldCycle c).beginArming c pos w.advance) := by
      have reached : u.armingReached w c = true := (u.armingReached_iff w c).mpr ⟨used, idle, atHand⟩
      rw [exec_armingPoint, State.armPoint, State.advance_tracker, copy]
      exact congrArg _ (if_pos reached)
    have lanes : ((u.closeOldCycle c).beginArming c pos w.advance).lanes = s.lanes.set c
        { l.oldCycleClosed b c now with arming := some ⟨s.tracker.cycles, pos, w.advance, none, none⟩ } := by
      rw [State.beginArming_lanes, State.lane, State.closeOldCycle_lanes, PerCyl.get_set_self, PerCyl.set_set,
        (u.closeOldCycle_keeps c).2.1]
      rfl
    have lane : ((u.closeOldCycle c).beginArming c pos w.advance).lane c =
        { l.oldCycleClosed b c now with arming := some ⟨s.tracker.cycles, pos, w.advance, none, none⟩ } := by
      rw [State.lane, lanes, PerCyl.get_set_self]
    refine ⟨_, _, arms, (u.closeOldCycle_raised c).trans (raised_of_ports rfl), ?_, ?_, fun q f => ?_⟩
    · apply State.eq_of
      case lanes => exact lanes.trans (by rw [lane])
      all_goals simp [State.beginArming, u, now]
    · rw [lane, Lane.oldCycleClosed_eq, ArmedPulse.cutAt_eq]
      rfl
    · simp only [noFlags, Bool.or_false, Bool.or_eq_true, Bool.and_eq_true, decide_eq_true_iff, any_driving_iff, any_waiting_iff]
      exact Iff.rfl

/-! ## The answer (R86) -/

theorem exec_armingAnswer (dt : Nat) (c : Cyl) (s : State) : exec (.armingAnswer dt c) s = .next ((s.advance dt).takeAnswer c) := rfl

/-- The state in which an arming makes its pulses (R86). -/
def Arming.pulseState (a : Arming) : PulseState := a.loss.elim .pending .dropped

/-- The record as an arming leaves it, its pulses dropped if phase was lost meanwhile. -/
def armedRecord (a : Arming) (x : ArmingAnswer) (isolated : Bool) : Record :=
  { makeRecord a x isolated with
    pulses := if x.cutOut || isolated then [] else x.entries.map fun m => { armedPulse m with state := a.pulseState } }

theorem ArmedPulse.drop_merged (reason : DropReason) (p : ArmedPulse) : (p.drop reason).merged = p.merged := by
  unfold ArmedPulse.drop
  split <;> rfl

theorem armedRecord_of_loss {a : Arming} {reason : DropReason} (loss : a.loss = some reason) (x : ArmingAnswer) (isolated : Bool) :
    armedRecord a x isolated = (makeRecord a x isolated).drop reason := by
  unfold armedRecord makeRecord Record.drop Arming.pulseState
  rw [loss]
  split
  · rfl
  · simp [ArmedPulse.drop, armedPulse, PulseState.waits]

theorem armedRecord_of_no_loss {a : Arming} (none : a.loss = none) (x : ArmingAnswer) (isolated : Bool) :
    armedRecord a x isolated = makeRecord a x isolated := by
  unfold armedRecord makeRecord Arming.pulseState
  rw [none]
  rfl

/-- The record is open where it has pulses and phase was not lost. -/
theorem armedRecord_open_iff (a : Arming) (x : ArmingAnswer) (isolated : Bool) :
    (armedRecord a x isolated).Open ↔ ¬((armedRecord a x isolated).pulses = [] ∨ a.loss ≠ none) := by
  have states : ∀ p ∈ (armedRecord a x isolated).pulses, p.state = a.pulseState := by
    intro p mem
    simp only [armedRecord] at mem
    split at mem
    · cases mem
    · obtain ⟨m, -, rfl⟩ := List.mem_map.mp mem
      rfl
  generalize armedRecord a x isolated = r at states
  unfold Arming.pulseState at states
  cases loss : a.loss with
  | none =>
    simp only [loss, Option.elim_none] at states
    rw [or_iff_left (by simp)]
    refine ⟨fun ⟨p, mem, _⟩ => List.ne_nil_of_mem mem, fun some => ?_⟩
    obtain ⟨p, mem⟩ := List.exists_mem_of_ne_nil _ some
    exact ⟨p, mem, by rw [states p mem]; rfl⟩
  | some reason =>
    simp only [loss, Option.elim_some] at states
    refine iff_of_false (fun ⟨p, mem, unfinished⟩ => ?_) fun open_ => open_ (.inr (by simp))
    rw [states p mem] at unfinished
    cases unfinished

theorem State.placeRecord_eq (s : State) (c : Cyl) (r : Record) : s.placeRecord c r = { s with
    lanes := s.lanes.set c (if r.Open then { s.lane c with arming := none, current := some r }
      else { s.lane c with arming := none, current := none, last := some r }) } := by
  unfold State.placeRecord
  rw [Lane.closeCurrent_eq (r := r) rfl]
  rfl

/-- The taking of an answer, with the flags of a loss of phase. -/
theorem State.takeAnswer_eq {s : State} {c : Cyl} {a : Arming} {x : ArmingAnswer} (armed : (s.lane c).arming = some a)
    (answered : a.answer = some x) :
    let r := armedRecord a x (s.faultsOf c).isolated
    s.takeAnswer c = (s.placeRecord c r).raiseOrigins .pulseDropped (if a.loss = none then [] else r.pulses) := by
  intro r
  unfold State.takeAnswer
  simp only [armed, answered]
  cases loss : a.loss with
  | none =>
    simp only [r, armedRecord_of_no_loss loss]
    rfl
  | some reason =>
    have origins (t : State) : t.raiseOrigins .pulseDropped (makeRecord a x (s.faultsOf c).isolated).pulses =
        t.raiseOrigins .pulseDropped r.pulses := by
      simp only [r, armedRecord_of_loss loss, Record.drop, State.raiseOrigins, List.foldl_map, ArmedPulse.drop_merged]
    simp only [origins, ← armedRecord_of_loss loss]
    rfl

/-- Settles O32: the record is made in the state that the loss of phase asks for, and closes where nothing of it is open. -/
theorem armingAnswerMakesTheRecord : Obligations.ArmingAnswerMakesTheRecord := by
  unfold Obligations.ArmingAnswerMakesTheRecord
  intro dt c s a x armed answered isolated state pulses r l
  let u := s.advance dt
  have same : armedRecord a x isolated = r := by
    simp only [armedRecord, makeRecord, Arming.pulseState, armedPulse, r, pulses, state]
    cases a.loss <;> rfl
  have takes : u.takeAnswer c = (u.placeRecord c r).raiseOrigins .pulseDropped (if a.loss = none then [] else r.pulses) := by
    rw [← same]
    exact State.takeAnswer_eq (s := u) armed answered
  refine ⟨u.takeAnswer c, fun q f => decide (f = .pulseDropped) &&
    (if a.loss = none then [] else r.pulses).any fun p => decide (p.merged.port = q), rfl, ?raised, ?frame, fun q f => ?flags⟩
  case raised =>
    rw [takes]
    exact raised_congr ((raised_of_ports rfl).trans (raised_raiseOrigins (u.placeRecord c r) _ _)) fun _ _ => by simp [noFlags]
  case frame =>
    have isOpen : r.Open ↔ ¬(pulses = [] ∨ a.loss ≠ none) := by
      rw [← same]
      exact (armedRecord_open_iff a x isolated).trans (by rw [same])
    rw [takes, State.raiseOrigins_eq, State.placeRecord_eq]
    by_cases closes : pulses = [] ∨ a.loss ≠ none
    · rw [if_pos closes, if_neg (mt isOpen.mp (not_not_intro closes))]
      rfl
    · rw [if_neg closes, if_pos (isOpen.mpr closes)]
      rfl
  case flags =>
    rw [Bool.and_eq_true, decide_eq_true_iff, List.any_eq_true]
    by_cases none : a.loss = none <;> simp [none, r]

end Sys2Proof.Machine
end

section
/-! SUPPORT. The cylinder gate: the dwell, start points, deadlines, and the offer that is granted or refused. -/

namespace Sys2Proof.Machine

/-! ## The gate (R91) -/

theorem Lane.handOver_ungated {l : Lane} {r : Record} (current : l.current = some r)
    (none : ∀ q ∈ r.pulses, ∀ a d, q.state ≠ .due a d .cylinder) (b : Bank) (c : Cyl) (turn : Nat) : l.handOver b c turn = l := by
  unfold Lane.handOver
  simp [current, Record.firstGated_none none]

theorem exec_dwellEnd (dt : Nat) (c : Cyl) (s : State) : exec (.dwellEnd dt c) s = .next ((s.advance dt).endDwell c) := rfl

theorem State.endDwell_of_dwell {s : State} {c : Cyl} {ends : Nat} (dwells : (s.lane c).injector = .dwell ends) :
    s.endDwell c = if ends ≤ s.now then
      s.setLane c ({ s.lane c with injector := .ready }.handOver (s.plan.bankOf c) c s.nextTurn) else s := by
  simp only [State.endDwell, dwells]

/-- Settles O33: the dwell's end makes the injector ready, and an open gate hands over the earliest gated pulse. -/
theorem dwellEndOpensTheGate : Obligations.DwellEndOpensTheGate := by
  unfold Obligations.DwellEndOpensTheGate
  refine ⟨fun dt c s ends dwells => ?_, fun s c b e turn => State.lt_nextTurn, fun l b c turn => Lane.handOver_none b c turn,
    ?gate⟩
  · rw [exec_dwellEnd, State.endDwell_of_dwell (s := s.advance dt) dwells, State.advance_now]
    exact ⟨fun early => by rw [if_neg (Nat.not_le.mpr early)]; rfl, fun due => by rw [if_pos due]; rfl⟩
  case gate =>
    intro l b c turn r current opened
    have gate := Lane.gateOpen_iff current
    refine ⟨fun shut => ?_, fun none => Lane.handOver_ungated current none b c turn, fun isOpen i q a d atPos due first => ?_⟩
    · exact Lane.handOver_shut b c turn (Bool.eq_false_iff.mpr (mt gate.mp shut))
    · exact Lane.handOver_open b c turn current (gate.mpr isOpen) atPos due first

/-! ## Start points (R90) -/

theorem exec_startPoint (dt : Nat) (c : Cyl) (pos : Nat) (s : State) :
    exec (.startPoint dt c pos) s = .next ((s.advance dt).startPoint c pos) := rfl

theorem PointMarks.late_eq (m : PointMarks) (pos : Nat) : m.late pos = decide (∃ j ∈ m.jumps, j.start < pos ∧ pos < j.stop) := by
  rw [Bool.eq_iff_iff]
  simp [PointMarks.late]

/-- Settles O34: a start point at hand makes its PENDING pulse DUE under the gate, and any other is left. -/
theorem startPointMakesThePulseDue : Obligations.StartPointMakesThePulseDue := by
  unfold Obligations.StartPointMakesThePulseDue
  refine ⟨fun dt c pos s away => ?_, ?reached⟩
  · rw [exec_startPoint]
    congr 1
    unfold State.startPoint
    simp only [State.advance_lane]
    split
    · next r current =>
      split
      · next q atPos =>
        split
        · next reached =>
          exact absurd ((s.advance_pointReached_iff dt _).mp reached.2) (away r q current atPos reached.1)
        · rfl
      · rfl
    · rfl
  case reached =>
    intro dt c pos s r q current atPos pending atHand now due
    have reached : (s.advance dt).pointReached (r.startPos q) = true := (s.advance_pointReached_iff dt _).mpr atHand
    rw [exec_startPoint]
    simp only [State.startPoint, State.advance_lane, current, atPos, pending, reached, and_self, if_true]
    rw [show due = q.becomeDue now (s.plan.tolerance q.merged.pulse.kind) (s.tracker.marks.late (r.startPos q)) from by
      rw [PointMarks.late_eq]
      rfl]
    rfl

/-! ## Deadlines (R93) -/

theorem exec_deadlineExpiry (dt : Nat) (c : Cyl) (pos : Nat) (s : State) :
    exec (.deadlineExpiry dt c pos) s = .next ((s.advance dt).deadline c pos) := rfl

/-- One flag on one port. -/
theorem raised_one (s : State) (p : Port) (f : Flag) : Raised s (s.raise p f) fun q g => decide (q = p ∧ g = f) :=
  raised_congr (raised_raise s p f) fun _ _ => (Bool.decide_and _ _).symm

/-- Settles O35: a deadline reached drops the pulse, takes it out of the queue where it stood in one, and frees the gate. -/
theorem deadlineDropsThePulse : Obligations.DeadlineDropsThePulse := by
  unfold Obligations.DeadlineDropsThePulse
  intro dt c pos s r q since limit blocker current atPos due b dropped leave l
  have branch : (s.advance dt).deadline c pos = if limit ≤ s.now + dt then
      ((s.advance dt).setLane c (l.closeCurrent.handOver b c s.nextTurn)).raise q.merged.port .pulseDropped else s.advance dt := by
    simp only [State.deadline, State.advance_lane, current, atPos, due]
    rfl
  rw [exec_deadlineExpiry, branch]
  refine ⟨fun early => ?_, fun reached => ?_⟩
  · rw [if_neg (Nat.not_le.mpr early)]
    rfl
  · rw [if_pos reached]
    exact ⟨_, rfl, rfl, raised_congr ((raised_of_ports rfl).trans (raised_one _ _ _)) fun _ _ => Bool.false_or _⟩

end Sys2Proof.Machine
end

section
/-! SUPPORT. The offer: the clip to the end limit, the grant and the refusal (R94). -/

namespace Sys2Proof.Machine

theorem exec_grantOffer (dt : Nat) (b : Bank) (s : State) : exec (.grantOffer dt b) s = .next ((s.advance dt).takeOffer b) := rfl

/-- An offer that reaches its pulse is granted or refused as the clip says. -/
theorem State.takeOffer_eq {s : State} {b : Bank} {e : QueueEntry} {r : Record} {q : ArmedPulse} {since limit : Nat}
    (offer : (s.bank b).offer = some e) (current : (s.lane e.id.cyl).current = some r) (cycle : r.cycle = e.id.cycle)
    (atPos : r.pulses[e.id.pos]? = some q) (due : q.state = .due since limit .bank) (known : PhaseKnown s.tracker)
    (noLoss : ∀ n ∈ s.syncToCycle, n.losesPhase = false) (inTime : s.now ≤ limit) :
    s.takeOffer b = (s.clip e.id.cyl r q).elim (s.refuseOffer b e.id r q) fun x => s.acceptOffer b e.id r q since x.1 x.2 := by
  have found : r.pulse? e.id = some q := by rw [Record.pulse?, if_pos cycle, atPos]
  have phase : s.tracker.phaseKnown = true := (Tracker.phaseKnown_iff _).mpr known
  have taken : s.noLossWaiting = true := by
    rw [State.noLossWaiting_iff]
    exact fun n mem loses => by simpa [noLoss n mem] using (SyncNotice.losesPhase_iff n).mpr loses
  simp only [State.takeOffer, offer, current, found, due, phase, taken, inTime, decide_true, Bool.and_self, if_true]
  cases s.clip e.id.cyl r q <;> rfl

theorem quotient_eq {a d : Nat} (pos : 0 < d) : quotient a d = a / d := if_neg (by omega)

section
variable {angle : Int} {d limit width sp p : Nat} (spacing : 0 < sp) (period : 0 < p)
include period

theorem clipDuration_fits (fits : angle + (d * sp / p : Nat) ≤ (limit : Int)) :
    clipDuration angle d limit width sp p = some (d, false) := by
  rw [clipDuration, quotient_eq period, if_pos fits]

include spacing

theorem clipDuration_beyond (beyond : ¬angle + (d * sp / p : Nat) ≤ (limit : Int)) :
    let cut := if angle < (limit : Int) then ((limit : Int) - angle).toNat * p / sp else 0
    clipDuration angle d limit width sp p = if width ≤ cut then some (cut, true) else none := by
  rw [clipDuration, quotient_eq period, quotient_eq spacing, if_neg beyond]

end

/-- Settles O36: where the pulse fits it is granted whole, else it is clipped, and below the minimum width it is refused. -/
theorem grantOfferClipsToTheEndLimit : Obligations.GrantOfferClipsToTheEndLimit := by
  unfold Obligations.GrantOfferClipsToTheEndLimit
  intro dt b s e r q since limit w p older offer current cycle atPos due known noLoss inTime copy teeth small window period
    now c l sp d angle bound fits cut granted
  let u := s.advance dt
  have spacing : 0 < sp := Nat.div_pos small teeth
  have takes := State.takeOffer_eq (s := u) offer current cycle atPos due known noLoss inTime
  have clips : u.clip c r q = clipDuration angle d (s.plan.cylinder.get c).val.endLimit s.plan.timing.val.minWidth sp p := by
    have last : s.tracker.lastPeriod = p := by rw [Tracker.lastPeriod, window, List.headD_cons]
    have step : s.tracker.spacing = sp := Tracker.spacing_of_copy copy
    rw [← last, ← step]
    rfl
  have clipped : ¬fits → u.clip c r q = if s.plan.timing.val.minWidth ≤ cut then some (cut, true) else none := fun beyond =>
    clips.trans (clipDuration_beyond spacing period beyond)
  rw [exec_grantOffer]
  refine ⟨fun whole => ?_, fun beyond wide => ?_, fun beyond narrow => ?_⟩
  · rw [takes, clips.trans (clipDuration_fits period whole)]
    rfl
  · rw [takes, (clipped beyond).trans (if_pos wide)]
    exact ⟨_, rfl, rfl, raised_congr ((raised_of_ports rfl).trans (raised_one _ _ _)) fun _ _ => Bool.false_or _⟩
  · rw [takes, (clipped beyond).trans (if_neg (Nat.not_le.mpr narrow))]
    exact ⟨_, rfl, rfl, raised_congr ((raised_of_ports rfl).trans (raised_one _ _ _)) fun _ _ => Bool.false_or _⟩

end Sys2Proof.Machine
end

section
/-! SUPPORT. Drive ends, release completions, sync changes and isolations, as the cycle unit takes them (R92, R95 to R97). -/

namespace Sys2Proof.Machine

/-! ## Reports -/

theorem State.popCycleReport_cons {s : State} {b : Bank} {x : CycleReport} {more : List CycleReport}
    (reports : (s.mailOf b).toCycle = x :: more) :
    s.popCycleReport b = { s with mail := s.mail.set b { s.mailOf b with toCycle := more } } := by
  simp [State.popCycleReport, State.setMail, reports]

/-! ## The drive end (R95) -/

theorem exec_cycleDriveEnd (dt : Nat) (b : Bank) (s : State) : exec (.cycleDriveEnd dt b) s = .next ((s.advance dt).takeDriveEnd b) := rfl

theorem Record.pulse?_of {r : Record} {id : PulseId} {q : ArmedPulse} (cycle : r.cycle = id.cycle) (atPos : r.pulses[id.pos]? = some q) :
    r.pulse? id = some q := by rw [Record.pulse?, if_pos cycle, atPos]

theorem ArmedPulse.finish_idle {q : ArmedPulse} (idle : q.state.drives = false) (cause : Cause) (early : Bool) (ended : Nat) :
    q.finish cause early ended = q := by
  unfold ArmedPulse.finish
  split
  · next driven => simp [driven, PulseState.drives] at idle
  all_goals rfl

/-- A record without the driven pulse is left. -/
theorem Record.finish_idle {r : Record} {id : PulseId} (idle : ∀ q, r.pulse? id = some q → q.state.drives = false) (cause : Cause)
    (early : Bool) (ended : Nat) : r.finish id cause early ended = r := by
  unfold Record.finish
  split
  · next q found =>
    obtain ⟨-, atPos⟩ := Record.pulse?_some found
    obtain ⟨within, rfl⟩ := List.getElem?_eq_some_iff.mp atPos
    rw [ArmedPulse.finish_idle (idle _ found), Record.setPulse, List.set_getElem_self]
  · rfl

/-- The pulse as the drive end leaves it. -/
theorem Record.finish_driven {r : Record} {id : PulseId} {q : ArmedPulse} {granted : Nat} (found : r.pulse? id = some q)
    (drives : q.state = .energized granted) (cause : Cause) (early : Bool) (ended : Nat) :
    r.finish id cause early ended = { r with pulses := r.pulses.set id.pos { q with
      state := cause.outcome, energized := ended - granted, earlyPeak := q.earlyPeak || early } } := by
  simp only [Record.finish, found, ArmedPulse.finish, drives, Record.setPulse]

/-- The report of pulse `id` finds no driving pulse in `o`. -/
def IdleIn (o : Option Record) (id : PulseId) : Prop := ∀ r q, o = some r → r.pulse? id = some q → q.state.drives = false

theorem idleIn_of {o : Option Record} {id : PulseId}
    (idle : ∀ x u, o = some x → x.cycle = id.cycle → x.pulses[id.pos]? = some u → u.state.drives = false) : IdleIn o id :=
  fun x u record found => idle x u record (Record.pulse?_some found).1 (Record.pulse?_some found).2

theorem IdleIn.finish {o : Option Record} {id : PulseId} (idle : IdleIn o id) (cause : Cause) (early : Bool) (ended : Nat) :
    o.map (fun r => r.finish id cause early ended) = o := by
  cases record : o with
  | none => rfl
  | some r => rw [Option.map_some, Record.finish_idle (fun q => idle r q record)]

theorem IdleIn.driven {o : Option Record} {id : PulseId} (idle : IdleIn o id) :
    ((o.bind (·.pulse? id)).filter fun p => p.state.drives) = none := by
  rw [Option.filter_eq_none_iff]
  intro q found
  obtain ⟨r, record, found⟩ := Option.bind_eq_some_iff.mp found
  simp [idle r q record found]

/-- The pulse `id` is ENERGIZED in the record `r` since `granted`. -/
structure DrivesIn (r : Record) (id : PulseId) (q : ArmedPulse) (granted : Nat) : Prop where
  found : r.pulse? id = some q
  drives : q.state = .energized granted

theorem DrivesIn.driven {r : Record} {id : PulseId} {q : ArmedPulse} {granted : Nat} (driven : DrivesIn r id q granted) {o : Option Record}
    (record : o = some r) : ((o.bind (·.pulse? id)).filter fun p => p.state.drives) = some q := by
  rw [record, Option.bind_some, driven.found, Option.filter_some, driven.drives]
  rfl

section
variable {l : Lane} {id : PulseId} {r : Record} {q : ArmedPulse} {granted : Nat} (driven : DrivesIn r id q granted)
  (cause : Cause) (early : Bool) (ended : Nat)
include driven

/-- The pulse drives in the current record. -/
theorem Lane.driveEnded_current (current : l.current = some r) (other : IdleIn l.superseded id) :
    l.drivenPulse id = some q ∧ l.driveEnded id cause early ended =
      ({ l with injector := .releasing, current := some { r with pulses := r.pulses.set id.pos { q with
        state := cause.outcome, energized := ended - granted, earlyPeak := q.earlyPeak || early } } } :
          Lane).closeSuperseded.closeCurrent := by
  have found : l.drivenPulse id = some q := by rw [Lane.drivenPulse, driven.driven current, Option.some_or]
  refine ⟨found, ?_⟩
  have some : (({ l with injector := .releasing } : Lane).drivenPulse id).isSome = true := by
    rw [show ({ l with injector := .releasing } : Lane).drivenPulse id = some q from found]
    rfl
  rw [Lane.driveEnded, if_pos some, other.finish, current, Option.map_some, Record.finish_driven driven.found driven.drives]

/-- The pulse drives in the superseded record. -/
theorem Lane.driveEnded_superseded (superseded : l.superseded = some r) (other : IdleIn l.current id) :
    l.drivenPulse id = some q ∧ l.driveEnded id cause early ended =
      ({ l with injector := .releasing, superseded := some { r with pulses := r.pulses.set id.pos { q with
        state := cause.outcome, energized := ended - granted, earlyPeak := q.earlyPeak || early } } } :
          Lane).closeSuperseded.closeCurrent := by
  have found : l.drivenPulse id = some q := by rw [Lane.drivenPulse, other.driven, driven.driven superseded, Option.none_or]
  refine ⟨found, ?_⟩
  have some : (({ l with injector := .releasing } : Lane).drivenPulse id).isSome = true := by
    rw [show ({ l with injector := .releasing } : Lane).drivenPulse id = some q from found]
    rfl
  rw [Lane.driveEnded, if_pos some, other.finish, superseded, Option.map_some, Record.finish_driven driven.found driven.drives]

end

theorem Lane.driveEnded_undriven {l : Lane} {id : PulseId} (none : l.drivenPulse id = none) (cause : Cause) (early : Bool) (ended : Nat) :
    l.driveEnded id cause early ended = { l with injector := .releasing } := by
  have undriven : ¬(({ l with injector := .releasing } : Lane).drivenPulse id).isSome = true := by
    rw [show ({ l with injector := .releasing } : Lane).drivenPulse id = .none from none]
    decide
  rw [Lane.driveEnded, if_neg undriven]

theorem State.takeDriveEnd_eq {s : State} {b : Bank} {id : PulseId} {cause : Cause} {early : Bool} {started ended : Nat}
    {more : List CycleReport} (reports : (s.mailOf b).toCycle = .driveEnd (.scheduled id) cause early started ended :: more) :
    s.takeDriveEnd b = ({ s with
      mail := s.mail.set b { s.mailOf b with toCycle := more }
      lanes := s.lanes.set id.cyl ((s.lane id.cyl).driveEnded id cause early ended) } : State).raiseOrigins .pulseCut
        ((s.lane id.cyl).cutPulses id cause) := by
  simp only [State.takeDriveEnd, reports]
  rw [State.popCycleReport_cons reports]
  rfl

/-- The flag of a drive end: PULSE_CUT on the port of origin, for the cause CUT (R98). -/
theorem cutPulses_raised {l : Lane} {id : PulseId} {q : ArmedPulse} (found : l.drivenPulse id = some q) (cause : Cause) (u : State) :
    Raised u (u.raiseOrigins .pulseCut (l.cutPulses id cause)) fun x f =>
      decide (cause = .cut ∧ x = q.merged.port ∧ f = .pulseCut) := by
  refine raised_congr (raised_raiseOrigins u .pulseCut _) fun x f => ?_
  rw [Lane.cutPulses, found]
  by_cases cut : cause = .cut <;> simp [cut, Bool.and_comm, eq_comm]

theorem exec_cycleReleaseComplete (dt : Nat) (b : Bank) (s : State) :
    exec (.cycleReleaseComplete dt b) s = .next ((s.advance dt).takeRelease b) := rfl

theorem State.raiseOrigins_frame {s t : State} (same : s = t) (f : Flag) (ps : List ArmedPulse) :
    s.raiseOrigins f ps = { t with ports := (s.raiseOrigins f ps).ports } := by
  subst same
  exact s.raiseOrigins_eq f ps

/-- Settles O37: the record that holds the driving pulse takes its outcome and closes if nothing is left open, and a release
completion starts the dwell. -/
theorem driveEndAndReleaseReachTheLane : Obligations.DriveEndAndReleaseReachTheLane := by
  unfold Obligations.DriveEndAndReleaseReachTheLane
  refine ⟨?driveEnd, ?release, fun l r current => Lane.closeCurrent_eq current, fun l r superseded => Lane.closeSuperseded_eq superseded⟩
  case driveEnd =>
    intro dt b s id cause early started ended more reports l outcome ends left
    have takes := State.takeDriveEnd_eq (s := s.advance dt) reports
    have outcomeIs : cause.outcome = outcome := by cases cause <;> rfl
    have reportRaises {q : ArmedPulse} (found : l.drivenPulse id = some q) (l' : Lane) :
        Raised s ((left l').raiseOrigins .pulseCut (l.cutPulses id cause)) fun x f =>
          decide (cause = .cut ∧ x = q.merged.port ∧ f = .pulseCut) :=
      raised_congr ((raised_of_ports (t := left l') rfl).trans (cutPulses_raised found cause _)) fun _ _ => Bool.false_or _
    rw [exec_cycleDriveEnd, takes]
    refine ⟨fun r q granted current cycle atPos drives idle => ?_, fun r q granted superseded cycle atPos drives idle => ?_, fun none => ?_⟩
    · obtain ⟨found, after⟩ := Lane.driveEnded_current ⟨Record.pulse?_of cycle atPos, drives⟩ cause early ended current (idleIn_of idle)
      rw [outcomeIs] at after
      exact ⟨_, rfl, State.raiseOrigins_frame (congrArg left after) _ _, reportRaises found _⟩
    · obtain ⟨found, after⟩ :=
        Lane.driveEnded_superseded ⟨Record.pulse?_of cycle atPos, drives⟩ cause early ended superseded (idleIn_of idle)
      rw [outcomeIs] at after
      exact ⟨_, rfl, State.raiseOrigins_frame (congrArg left after) _ _, reportRaises found _⟩
    · have silent : (s.lane id.cyl).cutPulses id cause = [] := by
        rw [Lane.cutPulses, none]
        exact ite_self _
      rw [State.advance_lane, silent, Lane.driveEnded_undriven none]
      rfl
  case release =>
    intro dt b s id fault moment more reports
    rw [exec_cycleReleaseComplete]
    simp only [State.takeRelease, State.advance_mailOf, reports]
    rw [State.popCycleReport_cons (s := s.advance dt) reports]
    rfl

end Sys2Proof.Machine
end

section
/-! SUPPORT. Drops of a lane's waiting pulses: on a loss of phase, over all lanes, and on an isolation (R96, R97). -/

namespace Sys2Proof.Machine

/-! ## One lane -/

theorem Lane.dropCurrent_none {l : Lane} (none : l.current = none) (b : Bank) (c : Cyl) (reason : DropReason) :
    l.dropCurrent b c reason = l := by
  rw [Lane.dropCurrent, none]

theorem Lane.dropCurrent_some {l : Lane} {r : Record} (current : l.current = some r) (b : Bank) (c : Cyl) (reason : DropReason) :
    l.dropCurrent b c reason = { l with
      current := if (r.drop reason).Open then some (r.drop reason) else none
      last := if (r.drop reason).Open then l.last else some (r.drop reason)
      outbox := l.outbox ++ r.removals b c } := by
  rw [Lane.dropCurrent, current]
  refine (Lane.closeCurrent_eq (r := r.drop reason) rfl).trans ?_
  by_cases isOpen : (r.drop reason).Open
  · simp [isOpen, Lane.send]
  · simp [isOpen, Lane.send]

theorem Lane.dropCurrent_arming (l : Lane) (b : Bank) (c : Cyl) (reason : DropReason) : (l.dropCurrent b c reason).arming = l.arming := by
  cases current : l.current with
  | none => rw [Lane.dropCurrent_none current]
  | some r => rw [Lane.dropCurrent_some current]

theorem Lane.dropCurrent_drops (l : Lane) (b : Bank) (c : Cyl) (reason : DropReason) (arming : Option Arming) :
    DropsWaiting l { l.dropCurrent b c reason with arming := arming } b c reason arming := by
  unfold DropsWaiting
  cases current : l.current with
  | none =>
    simp only
    rw [Lane.dropCurrent_none current, current]
  | some r =>
    simp only
    rw [Lane.dropCurrent_some current]
    rfl

/-- The ports of origin of the pulses that wait (R98). -/
theorem dropsWaitingOf_iff (o : Option Record) (q : Port) :
    ((o.elim [] Record.waiting).any fun p => decide (p.merged.port = q)) = true ↔
      ∃ r u, o = some r ∧ u ∈ r.pulses ∧ u.state.waits = true ∧ u.merged.port = q := by
  rw [any_waiting_iff]
  refine exists_congr fun r => ⟨fun ⟨record, u, mem, port, waits⟩ => ⟨u, record, mem, waits, port⟩, ?_⟩
  exact fun ⟨u, record, mem, waits, port⟩ => ⟨record, u, mem, port, waits⟩

/-! ## The state -/

theorem State.dropWaiting_raised (s : State) (c : Cyl) (reason : DropReason) : Raised s (s.dropWaiting c reason) fun q f =>
    decide (f = .pulseDropped) && ((s.lane c).current.elim [] Record.waiting).any fun p => decide (p.merged.port = q) :=
  raised_congr ((raised_of_ports (t := s.setLane c ((s.lane c).dropCurrent (s.plan.bankOf c) c reason)) rfl).trans
    (raised_raiseOrigins _ .pulseDropped ((s.lane c).current.elim [] Record.waiting))) fun _ _ => Bool.false_or _

theorem State.dropWaiting_eq (s : State) (c : Cyl) (reason : DropReason) : s.dropWaiting c reason = { s with
    lanes := s.lanes.set c ((s.lane c).dropCurrent (s.plan.bankOf c) c reason)
    ports := (s.dropWaiting c reason).ports } := State.raiseOrigins_eq _ _ _

/-- The lane after a loss of phase (R86, R96). -/
def Lane.phaseLost (l : Lane) (b : Bank) (c : Cyl) (reason : DropReason) : Lane := (l.dropCurrent b c reason).markLoss reason

theorem State.losePhase_eq (s : State) (reason : DropReason) (c : Cyl) : s.losePhase reason c = { s with
    lanes := s.lanes.set c ((s.lane c).phaseLost (s.plan.bankOf c) c reason)
    ports := (s.losePhase reason c).ports } := by
  have lane : (s.dropWaiting c reason).lane c = (s.lane c).dropCurrent (s.plan.bankOf c) c reason := by
    rw [State.dropWaiting_eq]
    exact PerCyl.get_set_self _ c _
  have lanes : (s.losePhase reason c).lanes = s.lanes.set c ((s.lane c).phaseLost (s.plan.bankOf c) c reason) := by
    rw [State.losePhase, lane, State.dropWaiting_eq]
    exact PerCyl.set_set _ c _ _
  apply State.eq_of
  case lanes => exact lanes
  all_goals simp [State.losePhase]

/-- From `s` to `t` nothing changes but lanes and ports. -/
def OnlyLanes (s t : State) : Prop := ∃ l q, t = { s with lanes := l, ports := q }

theorem onlyLanes_losePhase {s t : State} (only : OnlyLanes s t) (reason : DropReason) (c : Cyl) : OnlyLanes s (t.losePhase reason c) := by
  obtain ⟨l, q, rfl⟩ := only
  exact ⟨_, _, State.losePhase_eq _ reason c⟩

theorem OnlyLanes.frame {s t : State} (only : OnlyLanes s t) : t = { s with lanes := t.lanes, ports := t.ports } := by
  obtain ⟨l, q, rfl⟩ := only
  rfl

theorem OnlyLanes.plan {s t : State} (only : OnlyLanes s t) : t.plan = s.plan := by
  obtain ⟨l, q, rfl⟩ := only
  rfl

/-- A loss of phase on every lane. -/
def State.losePhaseAll (s : State) (reason : DropReason) : State := Cyl.all.foldl (fun s c => s.losePhase reason c) s

section
variable (s : State) (reason : DropReason)

theorem onlyLanes_losePhaseAll : OnlyLanes s (s.losePhaseAll reason) :=
  foldl_law (law := OnlyLanes s) (fun _ c only => onlyLanes_losePhase only reason c) ⟨s.lanes, s.ports, rfl⟩ Cyl.all

theorem State.losePhase_lane (c d : Cyl) : (s.losePhase reason c).lane d =
    if d = c then (s.lane d).phaseLost (s.plan.bankOf d) d reason else s.lane d := by
  rw [State.losePhase_eq]
  refine (PerCyl.get_set _ c d _).trans ?_
  by_cases same : d = c
  · rw [if_pos same, if_pos same, same]
  · rw [if_neg same, if_neg same]
    rfl

theorem State.losePhaseAll_lane (d : Cyl) :
    (s.losePhaseAll reason).lane d = (s.lane d).phaseLost (s.plan.bankOf d) d reason := by
  refine (foldl_reads (law := OnlyLanes s) (read := State.lane) (update := fun d l => l.phaseLost (s.plan.bankOf d) d reason)
    (fun u c only => onlyLanes_losePhase only reason c) (fun u c d only => ?_) (by decide) ⟨s.lanes, s.ports, rfl⟩ d).trans
    (if_pos (cyl_mem_all d))
  rw [State.losePhase_lane, only.plan]

theorem State.losePhaseAll_raised : Raised s (s.losePhaseAll reason) fun q f => Cyl.all.any fun c =>
    decide (f = .pulseDropped) && ((s.lane c).current.elim [] Record.waiting).any fun p => decide (p.merged.port = q) :=
  foldl_raised (law := OnlyLanes s) (read := State.lane) (update := fun d l => l.phaseLost (s.plan.bankOf d) d reason)
    (fun u c only => onlyLanes_losePhase only reason c) (fun u c d only => by rw [State.losePhase_lane, only.plan])
    (flags := fun _ l q f => decide (f = .pulseDropped) && (l.current.elim [] Record.waiting).any fun p => decide (p.merged.port = q))
    (fun u c _ => raised_congr ((State.dropWaiting_raised u c reason).trans (raised_of_ports rfl)) fun _ _ => Bool.or_false _)
    (by decide) ⟨s.lanes, s.ports, rfl⟩

end

/-! ## What the cycle unit and the table engine take (R42, R96, R97) -/

theorem exec_syncChange (dt : Nat) (s : State) : exec (.syncChange dt) s = .next (s.advance dt).cycleTakesSync := rfl

theorem exec_syncChangeTableEngine (dt : Nat) (s : State) :
    exec (.syncChangeTableEngine dt) s = .next (s.advance dt).tableTakesSync := rfl

theorem exec_isolationEvent (dt : Nat) (b : Bank) (s : State) : exec (.isolationEvent dt b) s = .next ((s.advance dt).takeIsolation b) :=
  rfl

theorem State.cycleTakesSync_cons {s : State} {n : SyncNotice} {rest : List SyncNotice} (waits : s.syncToCycle = n :: rest) :
    s.cycleTakesSync = if n.losesPhase then ({ s with syncToCycle := rest } : State).losePhaseAll n.dropReason
      else { s with syncToCycle := rest } := by
  rw [State.cycleTakesSync, waits]
  rfl

theorem State.tableTakesSync_cons {s : State} {n : SyncNotice} {rest : List SyncNotice} (waits : s.syncToTable = n :: rest) :
    s.tableTakesSync = { s with
      syncToTable := rest, plan := if n.old = .stopped then { s.plan with votes := ⟨false, false⟩ } else s.plan } := by
  rw [State.tableTakesSync, waits]
  by_cases leaves : n.old = .stopped
  · simp only [leaves, if_true]
    rfl
  · simp only [leaves, if_false]

/-- Settles O38: a loss of phase drops what waits on every lane, an isolation what waits on one. -/
theorem syncChangesAndIsolationsTaken : Obligations.SyncChangesAndIsolationsTaken := by
  unfold Obligations.SyncChangesAndIsolationsTaken
  refine ⟨fun dt s n rest waits => ?_, fun dt s n rest waits => ?_, fun dt b s c more reports => ?_⟩
  · rw [exec_syncChange, State.cycleTakesSync_cons (s := s.advance dt) waits]
    refine ⟨fun keeps => by rw [keeps]; rfl, fun loses => ?_⟩
    rw [if_pos loses]
    let u : State := { s.advance dt with syncToCycle := rest }
    refine ⟨_, _, rfl, (raised_of_ports rfl).trans (u.losePhaseAll_raised n.dropReason), (onlyLanes_losePhaseAll u n.dropReason).frame,
      fun c => ?_, fun q f => ?_⟩
    · rw [State.losePhaseAll_lane]
      have drops := (s.lane c).dropCurrent_drops (s.plan.bankOf c) c n.dropReason
      refine (congrArg (DropsWaiting (s.lane c) · _ _ _ _) ?_).mpr (drops _)
      simp only [Lane.phaseLost, Lane.markLoss, Lane.dropCurrent_arming]
      rfl
    · rw [noFlags, Bool.false_or, List.any_eq_true]
      refine ⟨fun ⟨c, _, on⟩ => ?_, fun ⟨dropped, c, waiting⟩ => ⟨c, cyl_mem_all c, ?_⟩⟩
      · obtain ⟨dropped, any⟩ := Bool.and_eq_true_iff.mp on
        exact ⟨of_decide_eq_true dropped, c, (dropsWaitingOf_iff _ q).mp any⟩
      · exact Bool.and_eq_true_iff.mpr ⟨decide_eq_true dropped, (dropsWaitingOf_iff _ q).mpr waiting⟩
  · rw [exec_syncChangeTableEngine, State.tableTakesSync_cons (s := s.advance dt) waits]
    rfl
  · let u : State := { s.advance dt with mail := s.mail.set b { s.mailOf b with toCycle := more } }
    have takes : (s.advance dt).takeIsolation b = u.dropWaiting c .isolated := by
      simp only [State.takeIsolation, State.advance_mailOf, reports]
      rw [State.popCycleReport_cons (s := s.advance dt) reports]
      rfl
    have lanes : (u.dropWaiting c .isolated).lanes = s.lanes.set c ((s.lane c).dropCurrent (s.plan.bankOf c) c .isolated) := by
      rw [State.dropWaiting_eq]
      rfl
    have lane : (u.dropWaiting c .isolated).lane c = (s.lane c).dropCurrent (s.plan.bankOf c) c .isolated := by
      rw [State.lane, lanes, PerCyl.get_set_self]
    rw [exec_isolationEvent, takes]
    refine ⟨_, _, rfl, (raised_of_ports (t := u) rfl).trans (u.dropWaiting_raised c .isolated), ?_, ?_, fun q f => ?_⟩
    · rw [lane]
      exact u.dropWaiting_eq c .isolated
    · rw [lane]
      have drops := (s.lane c).dropCurrent_drops (s.plan.bankOf c) c .isolated (s.lane c).arming
      rwa [← Lane.dropCurrent_arming (s.lane c) (s.plan.bankOf c) c .isolated] at drops ⊢
    · simp only [noFlags, Bool.false_or, Bool.and_eq_true, decide_eq_true_iff]
      exact and_congr_right fun _ => dropsWaitingOf_iff (s.lane c).current q

end Sys2Proof.Machine
end

section
/-! SUPPORT. The bank arbiter at its events: the wait queue (R107, R108), offers (R109 to R112), a bank from its grant to its
recharge (R103 to R106) and cuts (R113 to R116). -/

namespace Sys2Proof.Machine

/-! ## The wait queue (R107, R108) -/

section
variable {s : State} {c : Cyl} {b : Bank} {more : List BankMessage} (dt : Nat)

/-- A bank's record is written as the bank arbiter takes the oldest message of a lane. -/
theorem State.popOutbox_setBank {m : BankMessage} (outbox : (s.lane c).outbox = m :: more) (r : BankRecord) :
    ((s.advance dt).popOutbox c).setBank b r = { s with
      now := s.now + dt, lanes := s.lanes.set c { s.lane c with outbox := more }, banks := s.banks.set b r } := by
  rw [State.popOutbox_cons dt outbox]
  rfl

/-- An entry of equal due time that was handed over before is still on its way (R107). -/
theorem exec_queueEntry_waits {e : QueueEntry} {turn : Nat} (outbox : (s.lane c).outbox = .entry b e turn :: more)
    (waits : ¬JoinsFirst s b e.due turn) : exec (.queueEntry dt c) s = .next (s.advance dt) := by
  have waits : (s.advance dt).joinWaits b e.due turn = true := by
    rw [← Bool.not_eq_false]
    exact fun first => waits ((State.joinWaits_false_iff s b e.due turn).mp first)
  change Host.Outcome.next ((s.advance dt).takeEntry c) = _
  rw [State.takeEntry, State.message_cons dt outbox]
  simp only [waits, if_true]

/-- The entry joins the queue of its bank (R107). -/
theorem exec_queueEntry_joins {e : QueueEntry} {turn : Nat} (outbox : (s.lane c).outbox = .entry b e turn :: more)
    (first : JoinsFirst s b e.due turn) : exec (.queueEntry dt c) s = .next (((s.advance dt).popOutbox c).setBank b
      ((s.bank b).join e (s.now + dt) (s.plan.bankGroup b).preemptDelay)) := by
  have first : (s.advance dt).joinWaits b e.due turn = false := (State.joinWaits_false_iff s b e.due turn).mpr first
  change Host.Outcome.next ((s.advance dt).takeEntry c) = _
  rw [State.takeEntry, State.message_cons dt outbox]
  simp only [first, Bool.false_eq_true, if_false]
  rfl

theorem exec_queueRemoval {id : PulseId} (outbox : (s.lane c).outbox = .removal b id :: more) :
    exec (.queueRemoval dt c) s = .next (((s.advance dt).popOutbox c).setBank b ((s.bank b).remove id)) := by
  change Host.Outcome.next ((s.advance dt).takeRemoval c) = _
  rw [State.takeRemoval, State.message_cons dt outbox]
  rfl

theorem exec_offerRefusal {id : PulseId} (outbox : (s.lane c).outbox = .refuse b id :: more) :
    exec (.offerRefusal dt c) s = .next (((s.advance dt).popOutbox c).setBank b ((s.bank b).refused id)) := by
  change Host.Outcome.next ((s.advance dt).takeRefusal c) = _
  rw [State.takeRefusal, State.message_cons dt outbox]
  rfl

end

/-- Settles O40: `BankRecord.join_eq`, `remove_eq` and `refused_eq` say what the message makes of the bank's record, and
`joinQueue_split` where the entry stands. -/
theorem waitQueueKeepsItsOrder : Obligations.WaitQueueKeepsItsOrder := by
  unfold Obligations.WaitQueueKeepsItsOrder
  refine ⟨?waits, ?joins, ?removal, ?refusal⟩
  case waits => exact fun dt c s b e turn more outbox waits => exec_queueEntry_waits dt outbox waits
  case joins =>
    intro dt c s b e turn more outbox first ordered
    obtain ⟨before, after, split, ahead, behind, joined⟩ := joinQueue_split e _ ordered
    refine ⟨before, after, split, ahead, behind, ?_⟩
    rw [exec_queueEntry_joins dt outbox first, BankRecord.join_eq, joined, State.popOutbox_setBank dt outbox]
    rfl
  case removal =>
    intro dt c s b id more outbox queue offer
    have written := exec_queueRemoval dt outbox
    rw [BankRecord.remove_eq, State.popOutbox_setBank dt outbox] at written
    exact written
  case refusal =>
    intro dt c s b id more outbox queue
    rw [exec_offerRefusal dt outbox, BankRecord.refused_eq, State.popOutbox_setBank dt outbox]

/-! ## The acceptance of an offer (R110) -/

theorem BankRecord.offers_iff {r : BankRecord} {id : PulseId} :
    r.offers id = true ↔ r.state = .idle ∧ ∃ e, r.offer = some e ∧ e.id = id := by
  rw [BankRecord.offers, Bool.and_eq_true, decide_eq_true_iff]
  cases r.offer <;> simp

theorem exec_offerAccept (dt : Nat) (c : Cyl) (x : Sense) (s : State) :
    exec (.offerAccept dt c x) s = .next ((s.advance dt).takeAccept c x) := rfl

/-- No time passes in a TRIP or a PEAK taken at once (R125). -/
theorem exec_startDrive (b : Bank) (x : Sense) (u : State) :
    (if x.tr then exec (.trip 0 b x) u else if x.pk then exec (.peak 0 b x) u else .next u) =
      .next (if x.tr then u.onTrip b x else if x.pk then u.onPeak b x else u) := by
  split
  · rfl
  · split <;> rfl

/-- Settles O41: an acceptance counts only while the bank is IDLE and offers itself to that pulse (`BankRecord.offers`); then
the bank's record is `BankRecord.grant_eq` and the drive starts as `State.startDrive_eq` says. -/
theorem offerAcceptStartsTheDrive : Obligations.OfferAcceptStartsTheDrive := by
  unfold Obligations.OfferAcceptStartsTheDrive
  intro dt c x s b id profile duration more outbox now taken queue started
  have popped : (s.advance dt).popOutbox c = taken := State.popOutbox_cons dt outbox
  refine ⟨fun e idle stopped offer named => ?_, fun declined => ?_⟩
  · have offers : (taken.bank b).offers id = true := BankRecord.offers_iff.mpr ⟨idle, e, offer, named⟩
    rw [exec_offerAccept, exec_startDrive, State.takeAccept, State.message_cons dt outbox]
    simp only [popped, offers, if_true]
    rw [BankRecord.grant_eq (taken.bank b) _ _ _ stopped]
    exact congrArg _ (State.startDrive_eq _ _ _ _ _ _ _)
  · have declines : (taken.bank b).offers id = false := by
      rw [← Bool.not_eq_true, BankRecord.offers_iff]
      rintro ⟨idle, e, offer, named⟩
      exact declined.elim (· idle) (· e offer named)
    rw [exec_offerAccept, State.takeAccept, State.message_cons dt outbox]
    simp only [popped, declines, Bool.false_eq_true, if_false]

/-! ## From the boost end to the end of the recharge (R103 to R106) -/

section
variable {s : State} {b : Bank} {more : List BankReport} (dt : Nat)

/-- A bank's record is written as the bank arbiter takes the oldest report of a slot. -/
theorem State.popBankReport_setBank {x : BankReport} (reports : (s.mailOf b).toBank = x :: more) (r : BankRecord) :
    ((s.advance dt).popBankReport b).setBank b r = { s with
      now := s.now + dt, mail := s.mail.set b { s.mailOf b with toBank := more }, banks := s.banks.set b r } := by
  have taken : ((s.advance dt).mailOf b).toBank.tail = more := congrArg List.tail reports
  rw [State.popBankReport, taken]
  rfl

theorem State.bankReport_cons {x : BankReport} (reports : (s.mailOf b).toBank = x :: more) :
    (s.advance dt).bankReport b = some x := congrArg List.head? reports

theorem exec_boostEnd {moment : Nat} (reports : (s.mailOf b).toBank = .boostEnd moment :: more) :
    exec (.boostEnd dt b) s = .next (((s.advance dt).popBankReport b).setBank b
      ((s.bank b).boostEnded moment (s.plan.bankGroup b).recharge)) := by
  change Host.Outcome.next ((s.advance dt).takeBoostEnd b) = _
  rw [State.takeBoostEnd, State.bankReport_cons dt reports]
  rfl

theorem exec_bankDriveEnd (reports : (s.mailOf b).toBank = .driveEnd :: more) :
    exec (.bankDriveEnd dt b) s = .next (((s.advance dt).popBankReport b).setBank b (s.bank b).driveEnded) := by
  change Host.Outcome.next ((s.advance dt).bankTakesDriveEnd b) = _
  rw [State.bankTakesDriveEnd, if_pos (State.bankReport_cons dt reports)]
  rfl

theorem exec_bankReleaseComplete (reports : (s.mailOf b).toBank = .releaseComplete :: more) :
    exec (.bankReleaseComplete dt b) s = .next (((s.advance dt).popBankReport b).setBank b (s.bank b).released) := by
  change Host.Outcome.next ((s.advance dt).bankTakesRelease b) = _
  rw [State.bankTakesRelease, if_pos (State.bankReport_cons dt reports)]
  rfl

theorem exec_rechargeExpiry : exec (.rechargeExpiry dt b) s =
    .next ((s.advance dt).setBank b ((s.bank b).recharged (s.now + dt))) := rfl

end

/-- The record of a bank that becomes IDLE: it offers itself if no offer is outstanding (R109). -/
theorem BankRecord.makeOffer_idle {r : BankRecord} (idle : r.state = .idle) :
    r.makeOffer = { r with offer := if r.offer = none then r.queue.head? else r.offer } := by
  rw [BankRecord.makeOffer_eq]
  simp only [idle, true_and]

section
variable {r : BankRecord}

theorem BankRecord.released_recharged (releasing : r.state = .releasing) (done : r.recharge = .done) :
    r.released = { r with state := .idle, holder := none, offer := if r.offer = none then r.queue.head? else r.offer } := by
  rw [BankRecord.released, if_pos releasing, if_pos done, BankRecord.makeOffer_idle rfl]

theorem BankRecord.released_recharging (releasing : r.state = .releasing) (recharges : r.recharge ≠ .done) :
    r.released = { r with state := .recovering, holder := none } := by
  rw [BankRecord.released, if_pos releasing, if_neg recharges]

theorem BankRecord.recharged_ends {ends now : Nat} (running : r.recharge = .running ends) (ended : ends ≤ now) :
    r.recharged now = if r.state = .recovering then
      { r with recharge := .done, state := .idle, offer := if r.offer = none then r.queue.head? else r.offer }
    else { r with recharge := .done } := by
  rw [BankRecord.recharged, running]
  simp only [ended, if_true]
  rw [BankRecord.makeOffer_idle rfl]

theorem BankRecord.recharged_runs {ends now : Nat} (running : r.recharge = .running ends) (early : now < ends) :
    r.recharged now = r := by
  rw [BankRecord.recharged, running]
  simp only [show ¬ends ≤ now by omega, if_false]

end

/-- A bank written with its own record. -/
theorem State.setBank_self (s : State) (b : Bank) : s.setBank b (s.bank b) = s := by
  simp [State.setBank, State.bank]

/-- Settles O42: each report writes the record of the bank alone, as the lemma about that operation on a record says. -/
theorem bankFollowsDriveAndRecharge : Obligations.BankFollowsDriveAndRecharge := by
  unfold Obligations.BankFollowsDriveAndRecharge
  intro dt b s more r now popped time offered
  refine ⟨?boostEnd, ?driveEnd, ?recharged, ?recharging, ?ends, ?runs⟩
  case boostEnd =>
    intro moment reports
    rw [exec_boostEnd dt reports, State.popBankReport_setBank dt reports]
    rfl
  case driveEnd =>
    intro reports held
    rw [exec_bankDriveEnd dt reports, State.popBankReport_setBank dt reports, BankRecord.driveEnded, if_pos held]
  case recharged =>
    intro reports releasing done
    rw [exec_bankReleaseComplete dt reports, State.popBankReport_setBank dt reports, BankRecord.released_recharged releasing done]
  case recharging =>
    intro reports releasing recharges
    rw [exec_bankReleaseComplete dt reports, State.popBankReport_setBank dt reports,
      BankRecord.released_recharging releasing recharges]
  case ends =>
    intro ends running ended
    rw [exec_rechargeExpiry, BankRecord.recharged_ends running ended]
    rfl
  case runs =>
    intro ends running early
    rw [exec_rechargeExpiry, BankRecord.recharged_runs running early]
    exact congrArg _ (State.setBank_self (s.advance dt) b)

/-! ## Cuts (R113 to R116) -/

section
variable {s : State} {b : Bank} {t : PreemptTimer} (dt : Nat) (timer : (s.bank b).preempt = some t)
include timer

theorem exec_preemptExpiry_runs (early : s.now + dt < t.expiry) : exec (.preemptExpiry dt b) s = .next (s.advance dt) := by
  have timer : ((s.advance dt).bank b).preempt = some t := timer
  change Host.Outcome.next ((s.advance dt).preempt b) = _
  rw [State.preempt, timer]
  simp only [State.advance_now, show ¬t.expiry ≤ s.now + dt by omega, if_false]

/-- The preempt timer expires: it stops, and the holder is cut if there is one (R115). -/
theorem exec_preemptExpiry_ends (ended : t.expiry ≤ s.now + dt) : exec (.preemptExpiry dt b) s =
    .next ((s.bank b).holder.elim id (fun h u => u.cutHolder b h)
      ((s.advance dt).setBank b { s.bank b with preempt := none })) := by
  have timer : ((s.advance dt).bank b).preempt = some t := timer
  change Host.Outcome.next ((s.advance dt).preempt b) = _
  rw [State.preempt, timer]
  simp only [State.advance_now, ended, if_true, State.advance_bank]
  cases (s.bank b).holder <;> rfl

end

theorem exec_bankCut {s : State} {c : Cyl} {b : Bank} {h : Holder} {more : List BankMessage} (dt : Nat)
    (outbox : (s.lane c).outbox = .cut b h :: more) :
    exec (.bankCut dt c) s = .next (((s.advance dt).popOutbox c).cutHolder b h) := by
  change Host.Outcome.next ((s.advance dt).takeCut c) = _
  rw [State.takeCut, State.message_cons dt outbox]

/-- Settles O43: a cut is handed on by `State.cutHolder` alone, which asks that the bank is HELD by the holder named. -/
theorem cutsReachOnlyTheNamedHolder : Obligations.CutsReachOnlyTheNamedHolder := by
  unfold Obligations.CutsReachOnlyTheNamedHolder
  refine ⟨?preempt, ?cut⟩
  case preempt =>
    intro dt b s t timer stopped
    have state : (stopped.bank b).state = (s.bank b).state := by simp [stopped, State.bank]
    have holder : (stopped.bank b).holder = (s.bank b).holder := by simp [stopped, State.bank]
    refine ⟨exec_preemptExpiry_runs dt timer, fun ended h held named => ?_, fun ended unheld => ?_⟩
    · rw [exec_preemptExpiry_ends dt timer ended, named]
      change Host.Outcome.next (stopped.cutHolder b h) = _
      rw [State.cutHolder, state, holder, if_pos ⟨held, named⟩]
      rfl
    · rw [exec_preemptExpiry_ends dt timer ended]
      cases (s.bank b).holder with
      | none => rfl
      | some h =>
        change Host.Outcome.next (stopped.cutHolder b h) = _
        rw [State.cutHolder, state, if_neg fun both => unheld both.1]
  case cut =>
    intro dt c s b h more outbox taken
    rw [exec_bankCut dt outbox, State.popOutbox_cons dt outbox]
    rfl

end Sys2Proof.Machine
end

section
/-! SUPPORT. The driver sequencer's peak and hold (R125, R126, R128, R129) and the trip outside a drive (R130). -/

namespace Sys2Proof.Machine

/-! ## Faults found on a drive (R136) -/

/-- The slot with a fault found on its drive. -/
theorem State.recordFault_slot (s : State) (b : Bank) (d : Drive) (k : FaultKind) :
    (s.recordFault b d k).slot b = { s.slot b with faults := addFault k (s.slot b).faults } := by
  rw [State.recordFault_eq]
  exact Quad.get_set_self _ _ _

/-- A fault found on a drive is written to the slot and to the fault record of the cylinder, and is flagged; the rest stands. -/
theorem State.recordFault_frame (s : State) (b : Bank) (d : Drive) (k : FaultKind) : s.recordFault b d k = { s with
    slots := s.slots.set b { s.slot b with faults := addFault k (s.slot b).faults }
    faults := s.faults.set d.cyl (FaultWritten s d k)
    ports := (s.recordFault b d k).ports } := by
  rw [State.recordFault_eq]
  rfl

theorem raised_recordFault (s : State) (b : Bank) (d : Drive) (k : FaultKind) :
    Raised s (s.recordFault b d k) (flagBoth .driverFault) := by
  rw [State.recordFault_eq]
  exact raised_congr ((raised_of_ports (t := { s with
    slots := s.slots.set b { s.slot b with faults := addFault k (s.slot b).faults }
    faults := s.faults.set d.cyl (FaultWritten s d k) }) rfl).trans (raised_raiseBoth _ _)) fun _ _ => Bool.false_or _

/-- The state before a step of the driver sequencer on bank `b` acts on the slot: the time has passed and the comparator levels
are seen. -/
abbrev State.seeing (s : State) (dt : Nat) (b : Bank) (x : Sense) : State := (s.advance dt).setSense b x

/-- Nothing is flagged before the slot is acted on. -/
theorem Raised.after_seeing {s t : State} {dt : Nat} {b : Bank} {x : Sense} {on : Port → Flag → Bool}
    (raised : Raised (s.seeing dt b x) t on) : Raised s t on :=
  raised_congr ((raised_of_ports (t := s.seeing dt b x) rfl).trans raised) fun _ _ => Bool.false_or _

/-! ## The peak (R126) -/

section
variable {dt : Nat} {b : Bank} {x : Sense} {s : State} {d : Drive}

theorem exec_peak_boost (phase : (s.slot b).phase = .boost) (drive : (s.slot b).drive = some d) :
    exec (.peak dt b x) s = .next ((s.seeing dt b { x with pk := true }).peakDrive b d) := by
  have boosts : ((s.seeing dt b { x with pk := true }).slot b).inPhase .boost = some d :=
    DriveSlot.inPhase_iff.mpr ⟨phase, drive⟩
  change Host.Outcome.next ((s.advance dt).onPeak b x) = _
  rw [State.onPeak]
  simp only [boosts]

/-- A PEAK after the minimum peak time (R126). -/
theorem State.peakDrive_late (late : (s.slot b).peaksEarly d s.now = false) : s.peakDrive b d = { s with
    slots := s.slots.set b ((s.slot b).enterHold d s.now (s.senseOf b))
    mail := s.mail.set b { s.mailOf b with toBank := (s.mailOf b).toBank ++ [.boostEnd s.now] } } := by
  rw [State.peakDrive, State.noteEarlyPeak, late]
  rfl

/-- A PEAK before the minimum peak time (R126). -/
theorem State.peakDrive_early (early : (s.slot b).peaksEarly d s.now = true) : s.peakDrive b d = { s with
    slots := s.slots.set b (({ s.slot b with
      earlyPeak := true, faults := addFault .earlyPeak (s.slot b).faults } : DriveSlot).enterHold d s.now (s.senseOf b))
    mail := s.mail.set b { s.mailOf b with toBank := (s.mailOf b).toBank ++ [.boostEnd s.now] }
    faults := s.faults.set d.cyl (FaultWritten s d .earlyPeak)
    ports := (s.peakDrive b d).ports } := by
  have noted : s.noteEarlyPeak b d = (s.setSlot b { s.slot b with earlyPeak := true }).recordFault b d .earlyPeak := by
    rw [State.noteEarlyPeak, if_pos early]
  rw [State.peakDrive, noted, State.recordFault_eq]
  apply State.eq_of
  case slots => simp [State.setSlot, State.slot, State.reportBank, State.setMail, State.senseOf]
  all_goals rfl

theorem raised_peakDrive (s : State) (b : Bank) (d : Drive) :
    Raised s (s.peakDrive b d) fun p f => (s.slot b).peaksEarly d s.now && flagBoth .driverFault p f := by
  cases early : (s.slot b).peaksEarly d s.now with
  | false =>
    rw [State.peakDrive_late early]
    exact raised_of_ports rfl
  | true =>
    let marked := s.setSlot b { s.slot b with earlyPeak := true }
    have noted : s.noteEarlyPeak b d = marked.recordFault b d .earlyPeak := by rw [State.noteEarlyPeak, if_pos early]
    have peaked : (s.peakDrive b d).ports = (marked.recordFault b d .earlyPeak).ports := by
      rw [State.peakDrive, noted]
      rfl
    exact raised_congr (((raised_of_ports (t := marked) rfl).trans (raised_recordFault marked b d .earlyPeak)).trans
      (raised_of_ports peaked)) fun p f => by simp [noFlags]

end

/-- Settles O45: `State.peakDrive_early` and `State.peakDrive_late` give the slot at HOLD, the report and the fault record. -/
theorem peakEndsTheBoostPhase : Obligations.PeakEndsTheBoostPhase := by
  unfold Obligations.PeakEndsTheBoostPhase
  intro dt b x s d phase drive now y early
  have raised := (raised_peakDrive (s.seeing dt b { x with pk := true }) b d).after_seeing
  have seen : ((s.seeing dt b { x with pk := true }).slot b).peaksEarly d (s.seeing dt b { x with pk := true }).now =
      decide early := rfl
  have level : (s.seeing dt b { x with pk := true }).senseOf b = { x with pk := true } := Quad.get_set_self _ _ _
  refine ⟨_, exec_peak_boost phase drive, ?_, ?_⟩
  · by_cases peaksEarly : early
    · rw [State.peakDrive_early (by rw [seen]; exact decide_eq_true peaksEarly), level]
      simp only [if_pos peaksEarly]
      rfl
    · rw [State.peakDrive_late (by rw [seen]; exact decide_eq_false peaksEarly), level]
      simp only [if_neg peaksEarly]
      rfl
  · rw [seen] at raised
    by_cases peaksEarly : early
    · exact raised_congr raised fun p f => by simp [peaksEarly]
    · exact raised_congr raised fun p f => by simp [peaksEarly, noFlags]

/-! ## The hold (R128, R129) -/

section
variable (dt : Nat) {b : Bank} {s : State}

/-- A change of PKb, taken by the drive that holds (R128). -/
theorem exec_holdChop (pk : Bool) : exec (.holdChop dt b pk) s =
    .next (((s.slot b).inPhase .hold).elim id (fun _ u => u.setSlot b { s.slot b with battGate := !pk })
      (s.seeing dt b { s.senseOf b with pk := pk })) := by
  change Host.Outcome.next ((s.advance dt).onChop b pk) = _
  rw [State.onChop]
  change Host.Outcome.next (match (s.slot b).inPhase .hold with | some _ => _ | none => _) = _
  cases (s.slot b).inPhase .hold <;> rfl

theorem exec_floorEntry : exec (.floorEntry dt b) s =
    .next (((s.slot b).inPhase .hold).elim id (fun d u => u.setSlot b { s.slot b with
        holdLossTimer := (s.slot b).holdLossTimer.or (some (s.now + dt + d.profile.holdLoss)) })
      (s.seeing dt b { s.senseOf b with fl := true })) := by
  change Host.Outcome.next ((s.advance dt).onFloorEntry b) = _
  rw [State.onFloorEntry]
  change Host.Outcome.next (match (s.slot b).inPhase .hold with | some _ => _ | none => _) = _
  cases (s.slot b).inPhase .hold <;> rfl

theorem exec_floorExit : exec (.floorExit dt b) s =
    .next (((s.slot b).inPhase .hold).elim id (fun _ u => u.setSlot b { s.slot b with holdLossTimer := none })
      (s.seeing dt b { s.senseOf b with fl := false })) := by
  change Host.Outcome.next ((s.advance dt).onFloorExit b) = _
  rw [State.onFloorExit]
  change Host.Outcome.next (match (s.slot b).inPhase .hold with | some _ => _ | none => _) = _
  cases (s.slot b).inPhase .hold <;> rfl

variable (x : Sense)

/-- A TRIP in RELEASE is only recorded (R130). -/
theorem exec_trip_release {d : Drive} (phase : (s.slot b).phase = .release) (drive : (s.slot b).drive = some d) :
    exec (.trip dt b x) s = .next ((s.seeing dt b { x with tr := true }).recordFault b d .overcurrent) := by
  have phase : ((s.seeing dt b { x with tr := true }).slot b).phase = .release := phase
  have drive : ((s.seeing dt b { x with tr := true }).slot b).drive = some d := drive
  change Host.Outcome.next ((s.advance dt).onTrip b x) = _
  rw [State.onTrip]
  simp only [phase, drive]

/-- A TRIP in OFF is not acted on (R130). -/
theorem exec_trip_off (phase : (s.slot b).phase = .off) :
    exec (.trip dt b x) s = .next (s.seeing dt b { x with tr := true }) := by
  have phase : ((s.seeing dt b { x with tr := true }).slot b).phase = .off := phase
  change Host.Outcome.next ((s.advance dt).onTrip b x) = _
  rw [State.onTrip]
  simp only [phase]

end

/-- Settles O46: the commands on a comparator level write the level, and the slot only if a drive is in HOLD. -/
theorem holdPhaseFollowsTheComparators : Obligations.HoldPhaseFollowsTheComparators := by
  unfold Obligations.HoldPhaseFollowsTheComparators
  intro dt b s now y seen
  refine ⟨fun d phase drive => ?_, fun phase => ?_, fun d x phase drive => ?_, fun x phase => exec_trip_off dt x phase⟩
  · have holds : (s.slot b).inPhase .hold = some d := DriveSlot.inPhase_iff.mpr ⟨phase, drive⟩
    refine ⟨fun pk => ?_, ?_, ?_⟩
    · rw [exec_holdChop, holds]
      rfl
    · have timer : (s.slot b).holdLossTimer.or (some (now + d.profile.holdLoss)) =
          if y.holdLossTimer = none then some (now + d.profile.holdLoss) else y.holdLossTimer := by
        cases (s.slot b).holdLossTimer <;> simp
      rw [exec_floorEntry, holds, ← timer]
      rfl
    · rw [exec_floorExit, holds]
      rfl
  · have idle : (s.slot b).inPhase .hold = none := if_neg phase
    refine ⟨fun pk => ?_, ?_, ?_⟩
    · rw [exec_holdChop, idle]
      rfl
    · rw [exec_floorEntry, idle]
      rfl
    · rw [exec_floorExit, idle]
      rfl
  · refine ⟨_, exec_trip_release dt x phase drive, ?_, (raised_recordFault _ _ _ _).after_seeing⟩
    exact State.recordFault_frame _ _ _ _

end Sys2Proof.Machine
end

section
/-! SUPPORT. How a drive ends (R127, R129 to R133). -/

namespace Sys2Proof.Machine

/-! ## A drive end as one operation on the state -/

/-- The fault that ends a drive. -/
def Cause.fault? : Cause → Option FaultKind
  | .fault k => some k.kind
  | .time => none
  | .cut => none

/-- The state with the fault of a drive's end found on it, if the drive ends with one (R136). -/
def State.faulted (s : State) (b : Bank) (d : Drive) (cause : Cause) : State :=
  cause.fault?.elim s fun k => s.recordFault b d k

/-- The state as a command that ends a drive acts on the slot: the comparator levels are seen, and a cut is taken from the
mail. -/
def State.ending (s : State) (dt : Nat) (b : Bank) (x : Sense) (i : Instr) : State :=
  { s.seeing dt b x with
    mail := s.mail.set b { s.mailOf b with
      cuts := if i = .driverCut dt b x then (s.mailOf b).cuts.tail else (s.mailOf b).cuts } }

/-- A command other than DRIVER_CUT takes no cut. -/
theorem State.ending_uncut (s : State) (dt : Nat) (b : Bank) (x : Sense) {i : Instr} (uncut : i ≠ .driverCut dt b x) :
    s.ending dt b x i = s.seeing dt b x := by
  rw [State.ending, if_neg uncut]
  apply State.eq_of
  case mail => exact Quad.set_get_self _ _
  all_goals rfl

theorem State.ending_cut (s : State) (dt : Nat) (b : Bank) (x : Sense) :
    ((s.advance dt).popCut b).setSense b x = s.ending dt b x (.driverCut dt b x) := by
  rw [State.ending, if_pos rfl]
  rfl

theorem State.faultDrive_eq (s : State) (b : Bank) (d : Drive) (k : EndFault) :
    s.faultDrive b d k = (s.faulted b d (.fault k)).endDrive b d (.fault k) := rfl

theorem expired_of_le {timer : Option Nat} {now : Nat} (comes : ∃ e, timer = some e ∧ e ≤ now) : expired timer now = true := by
  obtain ⟨e, rfl, le⟩ := comes
  exact decide_eq_true le

section
variable {dt : Nat} {b : Bank} {x : Sense} {s : State} {d : Drive}

theorem exec_durationExpiry_ends (drives : (s.slot b).driving = some d)
    (comes : ∃ e, (s.slot b).durationTimer = some e ∧ e ≤ s.now + dt) :
    exec (.durationExpiry dt b x) s = .next ((s.seeing dt b x).endDrive b d .time) := by
  have drives : ((s.advance dt).slot b).driving = some d := drives
  have comes : expired ((s.advance dt).slot b).durationTimer (s.advance dt).now = true := expired_of_le comes
  change Host.Outcome.next ((s.advance dt).onDuration b x) = _
  rw [State.onDuration]
  simp only [drives, comes, if_true]

theorem exec_driverCut_ends (drives : (s.slot b).driving = some d) (cut : (s.mailOf b).cuts.head? = some d.holder) :
    exec (.driverCut dt b x) s = .next ((((s.advance dt).popCut b).setSense b x).endDrive b d .cut) := by
  obtain ⟨more, cuts⟩ := List.head?_eq_some_iff.mp cut
  have cuts : ((s.advance dt).mailOf b).cuts = d.holder :: more := cuts
  have drives : (((s.advance dt).popCut b).slot b).driving = some d := drives
  change Host.Outcome.next ((s.advance dt).onCut b x) = _
  rw [State.onCut]
  simp only [cuts, drives, if_true]

theorem exec_peakLimitExpiry_ends (boosts : (s.slot b).inPhase .boost = some d)
    (comes : ∃ e, (s.slot b).peakLimitTimer = some e ∧ e ≤ s.now + dt) :
    exec (.peakLimitExpiry dt b x) s = .next ((s.seeing dt b x).faultDrive b d .openPeak) := by
  have boosts : ((s.advance dt).slot b).inPhase .boost = some d := boosts
  have comes : expired ((s.advance dt).slot b).peakLimitTimer (s.advance dt).now = true := expired_of_le comes
  change Host.Outcome.next ((s.advance dt).onPeakLimit b x) = _
  rw [State.onPeakLimit]
  simp only [boosts, comes, if_true]

theorem exec_holdLossExpiry_ends (holds : (s.slot b).inPhase .hold = some d)
    (comes : ∃ e, (s.slot b).holdLossTimer = some e ∧ e ≤ s.now + dt) :
    exec (.holdLossExpiry dt b x) s = .next ((s.seeing dt b x).faultDrive b d .holdLoss) := by
  have holds : ((s.advance dt).slot b).inPhase .hold = some d := holds
  have comes : expired ((s.advance dt).slot b).holdLossTimer (s.advance dt).now = true := expired_of_le comes
  change Host.Outcome.next ((s.advance dt).onHoldLoss b x) = _
  rw [State.onHoldLoss]
  simp only [holds, comes, if_true]

theorem exec_trip_ends (phase : (s.slot b).phase = .boost ∨ (s.slot b).phase = .hold) (drive : (s.slot b).drive = some d)
    (asserted : x.tr = true) : exec (.trip dt b x) s = .next ((s.seeing dt b x).faultDrive b d .overcurrent) := by
  have level : ({ x with tr := true } : Sense) = x := by rw [← asserted]
  have phase : ((s.seeing dt b x).slot b).phase = .boost ∨ ((s.seeing dt b x).slot b).phase = .hold := phase
  have drive : ((s.seeing dt b x).slot b).drive = some d := drive
  change Host.Outcome.next ((s.advance dt).onTrip b x) = _
  rw [State.onTrip, level]
  obtain phase | phase := phase <;> simp only [phase, drive]

/-- Each of the five commands ends the drive with its cause, and with the fault of that cause (R127, R129 to R132). -/
theorem EndsDrive.exec_eq {i : Instr} {cause : Cause} (ends : EndsDrive dt b x s d i cause) (drive : (s.slot b).drive = some d) :
    exec i s = .next (((s.ending dt b x i).faulted b d cause).endDrive b d cause) := by
  obtain ⟨rfl, rfl, phase, comes⟩ | ⟨rfl, rfl, phase, cut⟩ | ⟨rfl, rfl, phase, comes⟩ | ⟨rfl, rfl, phase, comes⟩ |
    ⟨rfl, rfl, phase, asserted⟩ := ends
  · rw [State.ending_uncut s dt b x (i := .durationExpiry dt b x) nofun]
    exact exec_durationExpiry_ends (DriveSlot.driving_iff.mpr ⟨phase, drive⟩) comes
  · rw [← State.ending_cut]
    exact exec_driverCut_ends (DriveSlot.driving_iff.mpr ⟨phase, drive⟩) cut
  · rw [State.ending_uncut s dt b x (i := .peakLimitExpiry dt b x) nofun]
    exact exec_peakLimitExpiry_ends (DriveSlot.inPhase_iff.mpr ⟨phase, drive⟩) comes
  · rw [State.ending_uncut s dt b x (i := .holdLossExpiry dt b x) nofun]
    exact exec_holdLossExpiry_ends (DriveSlot.inPhase_iff.mpr ⟨phase, drive⟩) comes
  · rw [State.ending_uncut s dt b x (i := .trip dt b x) nofun]
    exact exec_trip_ends phase drive asserted

end

/-! ## The state that a drive end leaves -/

section
variable (s : State) (b : Bank) (d : Drive)

/-- The state with the fault found, field by field. -/
theorem State.faulted_frame (cause : Cause) : s.faulted b d cause = { s with
    slots := s.slots.set b { s.slot b with faults := match cause.fault? with
      | some k => k :: (s.slot b).faults.filter fun j => decide (j ≠ k)
      | none => (s.slot b).faults }
    faults := match cause.fault? with | some k => s.faults.set d.cyl (FaultWritten s d k) | none => s.faults
    ports := (s.faulted b d cause).ports } := by
  rw [State.faulted]
  cases cause.fault? with
  | none =>
    apply State.eq_of
    case slots => exact (Quad.set_get_self _ _).symm
    all_goals rfl
  | some k => exact State.recordFault_frame s b d k

theorem raised_faulted (cause : Cause) :
    Raised s (s.faulted b d cause) (if cause.fault? = none then noFlags else flagBoth .driverFault) := by
  rw [State.faulted]
  cases cause.fault? with
  | none => exact raised_refl s
  | some k => exact raised_recordFault s b d k

/-- A drive end leaves the drive in RELEASE, and the ZERO that is due if ZRb is asserted completes the release (R134). -/
theorem State.endDrive_zero (cause : Cause) (drive : (s.slot b).drive = some d) :
    Host.Outcome.next (s.endDrive b d cause) =
      if (s.senseOf b).zr then exec (.zero 0 b) (s.driveOver b d cause) else .next (s.driveOver b d cause) := by
  rw [State.endDrive_eq]
  split
  · next zero =>
    have released : (s.driveOver b d cause).slot b = (s.slot b).endDrive d cause s.now := Quad.get_set_self _ _ _
    exact (exec_zero_seen (u := s.driveOver b d cause) zero (by rw [released]; rfl) (by rw [released]; exact drive)).symm
  · rfl

end

/-- Settles O47: `EndsDrive.exec_eq` says that the command ends the drive, `State.faulted_frame` and `State.driveOver` what
that writes, and `State.endDrive_zero` when the release completes at once. -/
theorem driveEndsWithItsCause : Obligations.DriveEndsWithItsCause := by
  unfold Obligations.DriveEndsWithItsCause
  intro dt b x s d i cause drive ends now y fault
  have named : fault = cause.fault? := by cases cause <;> rfl
  have ending := State.faulted_frame (s.ending dt b x i) b d cause
  have raised : Raised s ((s.ending dt b x i).faulted b d cause) (if fault = none then noFlags else flagBoth .driverFault) := by
    rw [named]
    exact raised_congr ((raised_of_ports (t := s.ending dt b x i) rfl).trans (raised_faulted _ _ _ _)) fun _ _ => Bool.false_or _
  refine ⟨((s.ending dt b x i).faulted b d cause).driveOver b d cause, ?_, ?_, ?_⟩
  · generalize ((s.ending dt b x i).faulted b d cause).ports = ports at ending
    rw [named, ending]
    apply State.eq_of
    case slots =>
      have slot (x : DriveSlot) : (s.slots.set b x).set b (((s.slots.set b x).get b).endDrive d cause (s.now + dt)) =
          s.slots.set b (x.endDrive d cause (s.now + dt)) := by rw [Quad.get_set_self, Quad.set_set]
      exact slot _
    case mail => simp [State.driveOver, State.slot, State.mailOf, State.ending, y, now]
    all_goals rfl
  · exact raised_congr (raised.trans (raised_of_ports rfl)) fun _ _ => Bool.or_false _
  · have drive' : (((s.ending dt b x i).faulted b d cause).slot b).drive = some d := by
      rw [ending]
      exact (congrArg DriveSlot.drive (Quad.get_set_self _ _ _)).trans drive
    rw [ends.exec_eq drive, State.endDrive_zero _ _ _ _ drive']
    have level : (((s.ending dt b x i).faulted b d cause).senseOf b) = x := by
      rw [ending]
      exact Quad.get_set_self _ _ _
    rw [level]

end Sys2Proof.Machine
end

section
/-! SUPPORT. How a release completes (R134, R135, R137, R138). -/

namespace Sys2Proof.Machine

/-! ## What the completion of a release leaves (R135) -/

/-- The count of a cylinder after a drive, as a condition on the list of its faults (R137). -/
theorem countAfter_eq (faults : List FaultKind) (count : Nat) :
    countAfter faults count = if faults = [] then 0 else min (count + 1) 15 := by
  cases faults <;> rfl

/-- The count of a drive with faults `faults` isolates cylinder `c` (R138). -/
def State.Isolates (s : State) (c : Cyl) (faults : List FaultKind) : Prop :=
  (s.faultsOf c).isolated = false ∧ s.plan.limits.val.isolation ≤ countAfter faults (s.faultsOf c).count

section
variable {s : State} {b : Bank} {d : Drive}

/-- The release of a scheduled drive that isolates its cylinder (R135, R137, R138). -/
theorem State.completeRelease_isolates {id : PulseId} (holder : d.holder = .scheduled id)
    (isolates : s.Isolates d.cyl (s.slot b).faults) : s.completeRelease b d =
      ({ s.releaseOver b d with
        mail := s.mail.set b { s.mailOf b with
          toBank := (s.mailOf b).toBank ++ [.releaseComplete]
          toCycle := (s.mailOf b).toCycle ++ [.release d.holder (s.slot b).faults.head? s.now, .isolation d.cyl] }
        faults := s.faults.set d.cyl { s.faultsOf d.cyl with
          count := countAfter (s.slot b).faults (s.faultsOf d.cyl).count, isolated := true } } : State).raiseBoth
            .cylIsolated := by
  rw [State.completeRelease_scheduled holder, State.countDrive_isolates b (s := s.releaseOver b d) isolates]
  refine congrArg (State.raiseBoth · .cylIsolated) ?_
  apply State.eq_of
  case mail => simp [State.releaseOver, State.mailOf]
  all_goals rfl

/-- The release of a scheduled drive that does not isolate its cylinder (R135, R137). -/
theorem State.completeRelease_counts {id : PulseId} (holder : d.holder = .scheduled id)
    (stays : ¬s.Isolates d.cyl (s.slot b).faults) : s.completeRelease b d = { s.releaseOver b d with
      faults := s.faults.set d.cyl { s.faultsOf d.cyl with
        count := countAfter (s.slot b).faults (s.faultsOf d.cyl).count } } := by
  rw [State.completeRelease_scheduled holder, State.countDrive_counts b (s := s.releaseOver b d) stays]
  rfl

end

/-- What the completion of the release of drive `d` on bank `b` does, `faults` being those of the drive: `t` after `s`. -/
structure Releases (s t : State) (b : Bank) (d : Drive) (faults : List FaultKind) : Prop where
  frame : t = { s with
    slots := s.slots.set b { s.slot b with
      phase := .off, drive := none, cause := none, faults := [], earlyPeak := false, releaseTimer := none, iref := ⟨0, 0, 0⟩ }
    mail := s.mail.set b (t.mailOf b)
    faults := s.faults.set d.cyl (t.faultsOf d.cyl)
    ports := t.ports }
  toBank : (t.mailOf b).toBank = (s.mailOf b).toBank ++ [.releaseComplete]
  cuts : (t.mailOf b).cuts = (s.mailOf b).cuts
  isolates : (∃ id, d.holder = .scheduled id) → s.Isolates d.cyl faults →
    t.faultsOf d.cyl = { s.faultsOf d.cyl with count := countAfter faults (s.faultsOf d.cyl).count, isolated := true } ∧
    (t.mailOf b).toCycle = (s.mailOf b).toCycle ++ [.release d.holder faults.head? s.now, .isolation d.cyl]
  counts : (∃ id, d.holder = .scheduled id) → ¬s.Isolates d.cyl faults →
    t.faultsOf d.cyl = { s.faultsOf d.cyl with count := countAfter faults (s.faultsOf d.cyl).count } ∧
    (t.mailOf b).toCycle = (s.mailOf b).toCycle ++ [.release d.holder faults.head? s.now]
  service : (¬∃ id, d.holder = .scheduled id) → t.faultsOf d.cyl = s.faultsOf d.cyl ∧
    (t.mailOf b).toCycle = (s.mailOf b).toCycle ++ [.release d.holder faults.head? s.now]
  raised : ∃ on, Raised s t on ∧
    ∀ p f, on p f = true ↔ f = .cylIsolated ∧ (∃ id, d.holder = .scheduled id) ∧ s.Isolates d.cyl faults

theorem State.completeRelease_releases (s : State) (b : Bank) (d : Drive) :
    Releases s (s.completeRelease b d) b d (s.slot b).faults := by
  rcases holder : d.holder with id | c
  · have scheduled : ∃ id, d.holder = .scheduled id := ⟨id, holder⟩
    by_cases isolates : s.Isolates d.cyl (s.slot b).faults
    · rw [State.completeRelease_isolates holder isolates]
      exact {
        frame := by
          apply State.eq_of
          case mail => simp [State.mailOf]
          case faults => simp [State.faultsOf]
          all_goals rfl
        toBank := by simp [State.mailOf]
        cuts := by simp [State.mailOf]
        isolates := fun _ _ => by simp [State.mailOf, State.faultsOf]
        counts := fun _ stays => absurd isolates stays
        service := fun unscheduled => absurd scheduled unscheduled
        raised := ⟨_, (raised_of_ports (t := { s.releaseOver b d with mail := _, faults := _ }) rfl).trans (raised_raiseBoth _ _),
          fun p f => by simp [noFlags, flagBoth, isolates, scheduled]⟩ }
    · rw [State.completeRelease_counts holder isolates]
      exact {
        frame := by
          apply State.eq_of
          case mail => simp [State.mailOf, State.releaseOver]
          case faults => simp [State.faultsOf]
          all_goals rfl
        toBank := by simp [State.mailOf, State.releaseOver]
        cuts := by simp [State.mailOf, State.releaseOver]
        isolates := fun _ isolated => absurd isolated isolates
        counts := fun _ _ => by simp [State.mailOf, State.faultsOf, State.releaseOver]
        service := fun unscheduled => absurd scheduled unscheduled
        raised := ⟨_, raised_of_ports rfl, fun p f => by simp [noFlags, isolates]⟩ }
  · have unscheduled : ¬∃ id, d.holder = .scheduled id := by simp [holder]
    rw [State.completeRelease_service holder]
    exact {
      frame := by
        apply State.eq_of
        case mail => simp [State.mailOf, State.releaseOver]
        case faults => simp [State.faultsOf, State.releaseOver]
        all_goals rfl
      toBank := by simp [State.mailOf, State.releaseOver]
      cuts := by simp [State.mailOf, State.releaseOver]
      isolates := fun scheduled => absurd scheduled unscheduled
      counts := fun scheduled => absurd scheduled unscheduled
      service := fun _ => by simp [State.mailOf, State.faultsOf, State.releaseOver]
      raised := ⟨_, raised_of_ports rfl, fun p f => by simp [noFlags, unscheduled]⟩ }

/-! ## The commands that complete a release (R134) -/

/-- The state as the release-limit timer completes the release: the fault found, the gates of the bank off (R134). -/
def State.releaseForced (s : State) (b : Bank) (d : Drive) : State :=
  let found := s.recordFault b d .releaseSlow
  (found.setSlot b { found.slot b with boostGate := false, battGate := false }).lowGatesOff b

section
variable {dt : Nat} {b : Bank} {s : State} {d : Drive} (phase : (s.slot b).phase = .release) (drive : (s.slot b).drive = some d)
include phase drive

theorem exec_zero_release : exec (.zero dt b) s =
    .next ((s.seeing dt b { s.senseOf b with zr := true }).completeRelease b d) := by
  have releases : ((s.seeing dt b { s.senseOf b with zr := true }).slot b).inPhase .release = some d :=
    DriveSlot.inPhase_iff.mpr ⟨phase, drive⟩
  change Host.Outcome.next ((s.advance dt).onZero b) = _
  rw [State.onZero]
  simp only [State.advance_senseOf, releases]

theorem exec_releaseLimitExpiry_release (comes : ∃ e, (s.slot b).releaseTimer = some e ∧ e ≤ s.now + dt) :
    exec (.releaseLimitExpiry dt b) s = .next (((s.advance dt).releaseForced b d).completeRelease b d) := by
  have releases : ((s.advance dt).slot b).inPhase .release = some d := DriveSlot.inPhase_iff.mpr ⟨phase, drive⟩
  have comes : expired ((s.advance dt).slot b).releaseTimer (s.advance dt).now = true := expired_of_le comes
  change Host.Outcome.next ((s.advance dt).onReleaseLimit b) = _
  rw [State.onReleaseLimit]
  simp only [releases, comes, if_true]
  rfl

end

theorem State.releaseForced_frame (s : State) (b : Bank) (d : Drive) : s.releaseForced b d = { s with
    slots := s.slots.set b { s.slot b with
      faults := addFault .releaseSlow (s.slot b).faults, boostGate := false, battGate := false }
    faults := s.faults.set d.cyl (FaultWritten s d .releaseSlow)
    lowGates := (s.releaseForced b d).lowGates
    ports := (s.releaseForced b d).ports } := by
  have found := State.recordFault_frame s b d .releaseSlow
  generalize (s.recordFault b d .releaseSlow).ports = ports at found
  rw [State.releaseForced, found]
  apply State.eq_of
  all_goals simp [State.setSlot, State.slot]

theorem raised_releaseForced (s : State) (b : Bank) (d : Drive) :
    Raised s (s.releaseForced b d) (flagBoth .driverFault) := by
  refine raised_congr ((raised_recordFault s b d .releaseSlow).trans (raised_of_ports ?_)) fun _ _ => Bool.or_false _
  simp [State.releaseForced]

theorem State.releaseForced_lowGates (s : State) (b : Bank) (d : Drive) (c : Cyl) : (s.releaseForced b d).lowGates.get c =
    if c.num ≤ s.plan.count ∧ s.plan.bankOf c = b then false else s.lowGates.get c := by
  rw [State.releaseForced, State.lowGatesOff_get, State.recordFault_eq]
  rfl

/-- The state as a release completes by command `i`, the ZERO or else the release limit (R134). -/
def State.releasing (s : State) (dt : Nat) (b : Bank) (d : Drive) (i : Instr) : State :=
  if i = .releaseLimitExpiry dt b then (s.advance dt).releaseForced b d else s.seeing dt b { s.senseOf b with zr := true }

section
variable {dt : Nat} {b : Bank} {s : State} {d : Drive} {i : Instr}

theorem exec_releasing (phase : (s.slot b).phase = .release) (drive : (s.slot b).drive = some d)
    (command : i = .zero dt b ∨ (i = .releaseLimitExpiry dt b ∧ ∃ e, (s.slot b).releaseTimer = some e ∧ e ≤ s.now + dt)) :
    exec i s = .next ((s.releasing dt b d i).completeRelease b d) := by
  obtain rfl | ⟨rfl, comes⟩ := command
  · rw [State.releasing, if_neg nofun]
    exact exec_zero_release phase drive
  · rw [State.releasing, if_pos rfl]
    exact exec_releaseLimitExpiry_release phase drive comes

/-- What the release limit, and only it, writes before the release completes (R134, R136). -/
theorem State.releasing_frame : s.releasing dt b d i = { s with
    now := s.now + dt
    sense := if i = .releaseLimitExpiry dt b then s.sense else s.sense.set b { s.senseOf b with zr := true }
    slots := s.slots.set b { s.slot b with
      faults := if i = .releaseLimitExpiry dt b then addFault .releaseSlow (s.slot b).faults else (s.slot b).faults
      boostGate := if i = .releaseLimitExpiry dt b then false else (s.slot b).boostGate
      battGate := if i = .releaseLimitExpiry dt b then false else (s.slot b).battGate }
    faults := s.faults.set d.cyl (if i = .releaseLimitExpiry dt b then FaultWritten s d .releaseSlow else s.faultsOf d.cyl)
    lowGates := (s.releasing dt b d i).lowGates
    ports := (s.releasing dt b d i).ports } := by
  by_cases slow : i = .releaseLimitExpiry dt b
  · simp only [State.releasing, if_pos slow]
    exact State.releaseForced_frame _ _ _
  · simp only [State.releasing, if_neg slow]
    apply State.eq_of
    case slots => exact (Quad.set_get_self _ _).symm
    case faults => exact (PerCyl.set_get_self _ _).symm
    all_goals rfl

theorem State.releasing_lowGates_forced (slow : i = .releaseLimitExpiry dt b) (c : Cyl) :
    (s.releasing dt b d i).lowGates.get c =
      if c.num ≤ s.plan.count ∧ s.plan.bankOf c = b then false else s.lowGates.get c := by
  rw [State.releasing, if_pos slow]
  exact State.releaseForced_lowGates (s.advance dt) b d c

theorem State.releasing_lowGates_kept (quick : i ≠ .releaseLimitExpiry dt b) :
    (s.releasing dt b d i).lowGates = s.lowGates := by
  rw [State.releasing, if_neg quick]
  rfl

theorem raised_releasing :
    Raised s (s.releasing dt b d i) fun p f => decide (i = .releaseLimitExpiry dt b) && flagBoth .driverFault p f := by
  unfold State.releasing
  split
  · next slow =>
    exact raised_congr ((raised_of_ports (t := s.advance dt) rfl).trans (raised_releaseForced _ b d)) fun p f => by
      simp [noFlags, slow]
  · next quick => exact raised_congr (raised_of_ports rfl) fun p f => by simp [noFlags, quick]

end

/-- Settles O48: the state in which the release completes is `State.releasing_frame`, and `State.completeRelease_releases` says
what the completion makes of it. -/
theorem releaseCompletesTheDrive : Obligations.ReleaseCompletesTheDrive := by
  unfold Obligations.ReleaseCompletesTheDrive
  intro dt b s d i phase drive command y slow faults record count isolates scheduled
  have begun := State.releasing_frame (s := s) (dt := dt) (b := b) (d := d) (i := i)
  have raisedBefore := raised_releasing (s := s) (dt := dt) (b := b) (d := d) (i := i)
  have exec_eq := exec_releasing phase drive command
  have forced (hurries : slow) := State.releasing_lowGates_forced (s := s) (d := d) hurries
  have kept (quick : ¬slow) := State.releasing_lowGates_kept (s := s) (d := d) quick
  have released := State.completeRelease_releases (s.releasing dt b d i) b d
  generalize s.releasing dt b d i = v at *
  generalize v.completeRelease b d = t at *
  have slot : v.slot b = { y with
      faults := faults, boostGate := if slow then false else y.boostGate, battGate := if slow then false else y.battGate } := by
    rw [begun]
    exact Quad.get_set_self _ _ _
  have found : (v.slot b).faults = faults := by rw [slot]
  have written : v.faultsOf d.cyl = record := by
    rw [begun]
    exact PerCyl.get_set_self _ _ _
  have counted : countAfter faults record.count = count := countAfter_eq faults record.count
  have plan : v.plan = s.plan := by rw [begun]
  have now : v.now = s.now + dt := by rw [begun]
  have mail : v.mailOf b = s.mailOf b := by rw [begun]; rfl
  rw [found] at released
  have same : v.Isolates d.cyl faults ↔ isolates := by rw [State.Isolates, written, plan, counted]
  obtain ⟨frame, toBank, cuts, isolated, counts, service, onAfter, raisedAfter, flagged⟩ := released
  simp only [written, now, mail, counted, same] at toBank cuts isolated counts service flagged
  refine ⟨t, _, exec_eq, raisedBefore.trans raisedAfter, ?frame, toBank, cuts, ?kept, ?forced, isolated, counts, service,
    ?flagged⟩
  case frame =>
    rw [frame, slot, begun]
    apply State.eq_of
    case slots => exact Quad.set_set _ _ _ _
    case mail => simp [State.mailOf]
    case faults => simp [State.faultsOf]
    all_goals rfl
  case kept =>
    intro quick
    rw [frame]
    exact kept quick
  case forced =>
    intro hurries c
    rw [frame]
    exact forced hurries c
  case flagged =>
    intro p f
    rw [Bool.or_eq_true, flagged]
    exact or_congr_left (by simp only [Bool.and_eq_true, decide_eq_true_eq, flagBoth, and_comm, slow])

end Sys2Proof.Machine
end

section
/-! SUPPORT. The two ends of a transaction: the check of a frame (R145), the frame that is fixed (R143, R158) and the judgement
of the frame received (R146, R150, R155). -/

namespace Sys2Proof.Machine

/-! ## Packed fields whose widths do not matter -/

/-- A field of zero at the top of a packed word adds nothing. -/
theorem packBits_concat_zero (fields : List (Nat × Nat)) (width : Nat) :
    packBits (fields ++ [(width, 0)]) = packBits fields := by
  induction fields with
  | nil => simp [packBits]
  | cons f fields ih =>
    obtain ⟨w, v⟩ := f
    rw [List.cons_append, packBits, packBits, ih]

/-- The field at the top of a packed word may be wider than its value needs. -/
theorem packBits_concat_width (fields : List (Nat × Nat)) {width other v : Nat} (fits : v < 2 ^ width) (fits' : v < 2 ^ other) :
    packBits (fields ++ [(width, v)]) = packBits (fields ++ [(other, v)]) := by
  induction fields with
  | nil => simp [packBits, Nat.mod_eq_of_lt fits, Nat.mod_eq_of_lt fits']
  | cons f fields ih =>
    obtain ⟨w, x⟩ := f
    rw [List.cons_append, List.cons_append, packBits, packBits, ih]

theorem packData_concat_zero (fields : List (Nat × Nat)) (width : Nat) :
    packData (fields ++ [(width, 0)]) = packData fields := congrArg (BitVec.ofNat 48) (packBits_concat_zero fields width)

theorem bit_lt_two_pow (x : Bool) {width : Nat} (pos : 0 < width) : bit x < 2 ^ width := by
  have two : 2 ^ 1 ≤ 2 ^ width := Nat.pow_le_pow_right (by omega) pos
  cases x <;> simp only [bit, Bool.false_eq_true, if_true, if_false] <;> omega

/-! ## The check of a frame (R145) -/

/-- One shift of the check register, bit by bit: the polynomial enters where the top bit leaves. -/
theorem crcShift_getLsbD (x : Byte) {i : Nat} (inside : i < 8) :
    (crcShift x).getLsbD i = ((decide (0 < i) && x.getLsbD (i - 1)) ^^ (x.getLsbD 7 && decide (i < 3))) := by
  have shifted : (x <<< 1).getLsbD i = (decide (0 < i) && x.getLsbD (i - 1)) := by
    have above : (!decide (i < 1)) = decide (0 < i) := by
      rw [← decide_not]
      exact decide_eq_decide.mpr Nat.not_lt
    rw [BitVec.getLsbD_shiftLeft, decide_eq_true inside, Bool.true_and, above]
  have polynomial : (0x07#8).getLsbD i = decide (i < 3) := by
    have each : ∀ j : Fin 8, (0x07#8).getLsbD j = decide (j.val < 3) := by decide
    exact each ⟨i, inside⟩
  have top : x.msb = x.getLsbD 7 := by rw [BitVec.msb_eq_getLsbD_last]
  unfold crcShift
  rw [top]
  split
  · next set => rw [BitVec.getLsbD_xor, shifted, polynomial, set, Bool.true_and]
  · next clear => rw [shifted, Bool.eq_false_iff.mpr clear, Bool.false_and, Bool.xor_false]

/-- The check register takes a byte in eight shifts. -/
theorem crcByte_eq_iterate (r b : Byte) : crcByte r b = crcShift^[8] (r ^^^ b) := rfl

theorem crc_concat (bytes : List Byte) (b : Byte) : crc (bytes ++ [b]) = crcByte (crc bytes) b := by
  simp [crc]

/-! ## The frame of a reply (R143, R158) -/

/-- The summary byte of R158 has no field above its bit 6. -/
theorem State.summary_eq (s : State) (p : Port) : s.summary p = BitVec.ofNat 8 (packBits
    [(3, syncCode s.tracker.sync), (1, bit (decide (s.tracker.sync = .coasting ∧ s.tracker.phaseHeld = true))),
      (1, bit (s.port p).attn), (1, bit (s.port p).hold), (1, bit s.plan.closed)]) := by
  have held : decide (s.tracker.sync = .coasting ∧ s.tracker.phaseHeld = true) =
      (decide (s.tracker.sync = .coasting) && s.tracker.phaseHeld) := by
    rw [Bool.decide_and, Bool.decide_eq_true]
  rw [held]
  exact congrArg (BitVec.ofNat 8) (packBits_concat_zero
    [(3, syncCode s.tracker.sync), (1, bit (decide (s.tracker.sync = .coasting) && s.tracker.phaseHeld)),
      (1, bit (s.port p).attn), (1, bit (s.port p).hold), (1, bit s.plan.closed)] 1)

theorem State.angleWord_eq (s : State) :
    s.angleWord = if s.tracker.sync = .fullSync ∨ (s.tracker.sync = .coasting ∧ s.tracker.phaseHeld = true) then
      s.tracker.engineAngle s.now else 0xFFFF := by
  rw [State.angleWord, readAngle]
  exact if_congr (Tracker.phaseKnown_iff _) rfl rfl

/-- Tag and result share a byte. -/
theorem packBits_tag_result (tag : BitVec 4) (x : Result) :
    packBits [(4, tag.toNat), (4, resultCode x)] = tag.toNat + 16 * resultCode x := by
  have fits : resultCode x < 2 ^ 4 := by cases x <;> decide
  rw [packBits, packBits, packBits, Nat.mod_eq_of_lt tag.isLt, Nat.mod_eq_of_lt fits]
  rfl

theorem PortState.idleReply_eq (q : PortState) : q.idleReply =
    ⟨0x00#8, 0, .ok, packData [(16, q.flags.toNat), (16, q.mask.toNat), (8, q.commands.length)]⟩ :=
  congrArg (Reply.mk 0x00#8 0 .ok)
    (packData_concat_zero [(16, q.flags.toNat), (16, q.mask.toNat), (8, q.commands.length)] 8)

/-- A line that is not low may fall: the frame is fixed (R143). -/
theorem State.beginTransaction_of_high {s : State} {p : Port} (high : (s.port p).txn = .idle ∨ (s.port p).txn = .complete) :
    s.beginTransaction p = s.setPort p { s.port p with
      txn := .active (wireOf (s.frameBytes p (s.port p).nextReply)) (!(s.port p).replies.isEmpty) } := by
  obtain idle | complete := high
  · exact State.beginTransaction_of_idle idle
  · simp [State.beginTransaction, complete]

/-- A line that is low does not fall. -/
theorem State.beginTransaction_of_low {s : State} {p : Port} {f : Wire} {queued : Bool} (low : (s.port p).txn = .active f queued) :
    s.beginTransaction p = s := by
  simp [State.beginTransaction, low]

/-- Settles O50: the check by `crcShift_getLsbD`, the frame by the equations of its bytes. -/
theorem transactionBeginFixesTheFrame : Obligations.TransactionBeginFixesTheFrame := by
  unfold Obligations.TransactionBeginFixesTheFrame
  refine ⟨rfl, fun bytes b => ⟨fun k => crcShift^[k] (crc bytes ^^^ b), rfl, ?register, ?shift⟩, ?frame⟩
  case register => rw [crc_concat, crcByte_eq_iterate]
  case shift =>
    intro k i _ inside
    dsimp only
    rw [Function.iterate_succ_apply']
    exact crcShift_getLsbD _ inside
  case frame =>
    intro dt p s q now reply angle summary byte body
    refine ⟨fun high => ?_, fun f queued low => ?_⟩
    · have next : q.nextReply = reply := by
        cases replies : q.replies with
        | nil => simp [PortState.nextReply, PortState.idleReply_eq, reply, replies]
        | cons r rest => simp [PortState.nextReply, reply, replies]
      have queued : (!q.replies.isEmpty) = decide (q.replies ≠ []) := by cases q.replies <;> rfl
      have bytes : (s.advance dt).frameBytes p reply = body ++ [crc body] := by
        have head : (s.advance dt).summary p = byte summary := State.summary_eq _ p
        have word : (s.advance dt).angleWord = angle := State.angleWord_eq _
        rw [State.frameBytes, head, word, packBits_tag_result]
        rfl
      rw [exec_transactionBegin, State.beginTransaction_of_high (s := s.advance dt) high]
      rw [State.advance_port, next, bytes, queued]
      rfl
    · rw [exec_transactionBegin, State.beginTransaction_of_low (s := s.advance dt) low]
      rfl

end Sys2Proof.Machine
end

section
/-! SUPPORT. The frame that a completed transaction has received is judged (R146, R150, R155). -/

namespace Sys2Proof.Machine

/-! ## The bytes received -/

theorem wireByte_eq (w : Wire) (k : Nat) : wireByte w k = w.extractLsb' (8 * (11 - k)) 8 := by
  rw [wireByte, BitVec.extractLsb', Nat.shiftRight_eq_div_pow]

theorem goodFrame_iff (w : Wire) : goodFrame w = true ↔
    crc ((List.range 11).map fun k => w.extractLsb' (8 * (11 - k)) 8) = w.extractLsb' 0 8 := by
  have bytes : checkedBytes w = (List.range 11).map fun k => w.extractLsb' (8 * (11 - k)) 8 := by
    simp only [checkedBytes, wireByte_eq]
    rfl
  rw [goodFrame, decide_eq_true_iff, bytes, wireByte_eq]

theorem requestOf_tag (w : Wire) : (requestOf w).tag = w.extractLsb' 80 4 := by
  have byte : (requestOf w).tag = (wireByte w 1).setWidth 4 := rfl
  rw [byte, wireByte_eq]
  apply BitVec.eq_of_getLsbD_eq
  intro i inside
  have wide : i < 8 := by omega
  simp [inside, wide]

/-! ## The judgement -/

section
variable {s : State} {p : Port} {rx : Wire}

theorem State.judgeFrame_bad (bad : ¬goodFrame rx = true) : s.judgeFrame p rx = s.raise p .badFrame := if_neg bad

section
variable (good : goodFrame rx = true)
include good

theorem State.judgeFrame_none (code : wireByte rx 0 = 0x00#8) : s.judgeFrame p rx = s := by
  rw [State.judgeFrame, if_pos good, if_pos code]

theorem State.judgeFrame_reset (code : wireByte rx 0 = 0x21#8) : s.judgeFrame p rx = s.resetPort p (requestOf rx).tag := by
  rw [State.judgeFrame, if_pos good, if_neg (by rw [code]; decide), if_pos code]

theorem State.judgeFrame_request (request : wireByte rx 0 ≠ 0x00#8) (stays : wireByte rx 0 ≠ 0x21#8) :
    s.judgeFrame p rx = s.setPort p ((s.port p).arrive (requestOf rx)) := by
  rw [State.judgeFrame, if_pos good, if_neg request, if_neg stays]

end

end

theorem PortState.arrive_fits {q : PortState} {r : Request} (room : q.commands.length < 16) : q.arrive r = { q with
    commands := q.commands ++ [r]
    hold := if q.halt ≤ q.commands.length + 1 then true else q.hold } := by
  rw [PortState.arrive, if_neg (by omega), PortState.holdAfterAppend]
  simp only [List.length_append, List.length_singleton]
  split <;> rfl

theorem PortState.arrive_overflows {q : PortState} {r : Request} (full : 16 ≤ q.commands.length) :
    q.arrive r = q.raise .queueOverflow := if_pos full

/-! ## The completion -/

/-- A completed transaction removes the reply sent and judges the frame. -/
theorem State.completeTransaction_of_active {s : State} {p : Port} {rx f : Wire} {queued : Bool}
    (active : (s.port p).txn = .active f queued) :
    s.completeTransaction p rx = (s.setPort p ((s.port p).finishSending queued)).judgeFrame p rx := by
  rw [State.completeTransaction, active]

/-- The three commands that complete a transaction differ in the frame received alone. -/
theorem exec_completes {dt : Nat} {p : Port} {s : State} {i : Instr} {rx : Wire}
    (completes : i = .transactionComplete dt p rx ∨ (∃ tail, i = .noneFrame dt p tail ∧ rx = 0x00#8 ++ tail) ∨
      (∃ tail, i = .portReset dt p tail ∧ rx = 0x21#8 ++ tail)) :
    exec i s = .next ((s.advance dt).completeTransaction p rx) := by
  obtain rfl | ⟨tail, rfl, rfl⟩ | ⟨tail, rfl, rfl⟩ := completes <;> rfl

/-- Settles O51: after the reply sent is removed, `State.judgeFrame` decides by the check, the code and the room in the queue. -/
theorem completedFrameIsJudged : Obligations.CompletedFrameIsJudged := by
  unfold Obligations.CompletedFrameIsJudged
  intro dt p s i rx f queued active completes q left good code
  have sent : exec i s = .next ((left q).judgeFrame p rx) := by
    rw [exec_completes completes, State.completeTransaction_of_active (s := s.advance dt) active]
    rfl
  have goodIff : goodFrame rx = true ↔ good := goodFrame_iff rx
  have first : wireByte rx 0 = code := wireByte_eq rx 0
  have port : (left q).port p = q := PerPort.get_set_self _ _ _
  have written (x : PortState) : (left q).setPort p x = left x := by
    apply State.eq_of
    case ports => exact PerPort.set_set _ _ _ _
    all_goals rfl
  refine ⟨fun bad => ?bad, fun well none => ?none, fun well reset => ?reset, fun well request stays room => ?fits,
    fun well request stays full => ?overflows⟩
  case bad =>
    rw [sent, State.judgeFrame_bad (mt goodIff.mp bad)]
    exact ⟨_, rfl, rfl, raised_one _ _ _⟩
  case none => rw [sent, State.judgeFrame_none (goodIff.mpr well) (first.trans none)]
  case reset =>
    rw [sent, State.judgeFrame_reset (goodIff.mpr well) (first.trans reset), State.resetPort, port, requestOf_tag,
      written]
    rfl
  case fits =>
    rw [sent, State.judgeFrame_request (goodIff.mpr well) (first ▸ request) (first ▸ stays), port, PortState.arrive_fits room,
      written]
  case overflows =>
    have raises : (left q).setPort p (q.raise .queueOverflow) = (left q).raise p .queueOverflow := by rw [State.raise, port]
    rw [sent, State.judgeFrame_request (goodIff.mpr well) (first ▸ request) (first ▸ stays), port,
      PortState.arrive_overflows full, raises]
    exact ⟨_, rfl, rfl, raised_one _ _ _⟩

end Sys2Proof.Machine
end

section
/-! SUPPORT. The requests on the port itself (R152, R163, R164). -/

namespace Sys2Proof.Machine

/-! ## PORT_SETUP, FLAGS_READ and FLAGS_CLEAR -/

section
variable {p : Port} {ps : Params} {s : State}

theorem portSetup_halt_refused (bad : ¬(2 ≤ field ps 0 5 ∧ field ps 0 5 ≤ 16)) : portSetup p ps s = refuse s .range 1 := by
  simp [portSetup, firstFailure, firstFailureFrom, bad]

theorem portSetup_resume_refused (good : 2 ≤ field ps 0 5 ∧ field ps 0 5 ≤ 16) (bad : field ps 0 5 ≤ field ps 5 4) :
    portSetup p ps s = refuse s .range 2 := by
  simp [portSetup, firstFailure, firstFailureFrom, good, Nat.not_lt.mpr bad]

theorem portSetup_accepted (good : 2 ≤ field ps 0 5 ∧ field ps 0 5 ≤ 16) (less : field ps 5 4 < field ps 0 5) :
    portSetup p ps s = served
      (s.setPort p ((s.port p).setup (field ps 0 5) (field ps 5 4) (BitVec.ofNat 16 (field ps 9 16))))
      (packData [(8, field ps 0 5), (8, field ps 5 4), (16, (BitVec.ofNat 16 (field ps 9 16)).toNat),
        (8, (s.port p).commands.length),
        (1, bit ((s.port p).setup (field ps 0 5) (field ps 5 4) (BitVec.ofNat 16 (field ps 9 16))).hold)]) := by
  have narrow := packBits_concat_width [(8, field ps 0 5), (8, field ps 5 4), (16, (BitVec.ofNat 16 (field ps 9 16)).toNat),
    (8, (s.port p).commands.length)]
    (bit_lt_two_pow ((s.port p).setup (field ps 0 5) (field ps 5 4) (BitVec.ofNat 16 (field ps 9 16))).hold (width := 8) (by omega))
    (bit_lt_two_pow _ (width := 1) (by omega))
  have passes : firstFailure [decide (2 ≤ field ps 0 5 ∧ field ps 0 5 ≤ 16), decide (field ps 5 4 < field ps 0 5)] = none := by
    simp [firstFailure, firstFailureFrom, good, less]
  unfold portSetup
  simp only [passes]
  exact congrArg (served _) (congrArg (BitVec.ofNat 48) narrow)

theorem flagsRead_eq : flagsRead p ps s = served s
    (packData [(16, (s.port p).flags.toNat), (16, (s.port p).mask.toNat), (1, bit (s.port p).attn)]) := by
  have narrow := packBits_concat_width [(16, (s.port p).flags.toNat), (16, (s.port p).mask.toNat)]
    (bit_lt_two_pow (s.port p).attn (width := 8) (by omega)) (bit_lt_two_pow _ (width := 1) (by omega))
  have noTop := packBits_concat_zero [(16, (s.port p).flags.toNat), (16, (s.port p).mask.toNat), (8, bit (s.port p).attn)] 8
  exact congrArg (served s) (congrArg (BitVec.ofNat 48) (noTop.trans narrow))

theorem flagsClear_eq : flagsClear p ps s =
    let after := (s.port p).flags &&& ~~~(BitVec.ofNat 16 (field ps 0 16))
    served (s.setPort p ((s.port p).withFlags after)) (packData [(16, (s.port p).flags.toNat), (16, after.toNat)]) :=
  congrArg (served _) (packData_concat_zero [(16, (s.port p).flags.toNat),
    (16, ((s.port p).flags &&& ~~~(BitVec.ofNat 16 (field ps 0 16))).toNat)] 16)

end

/-- Settles O53: each request by the equation of its rule, the packed words read without the fields that hold nothing. -/
theorem portSetupAndFlagRequests : Obligations.PortSetupAndFlagRequests := by
  unfold Obligations.PortSetupAndFlagRequests
  intro dt s p r rest next base q halt resume mask hold after
  have waiting : q.commands.length = rest.length := by simp [q, base]
  refine ⟨fun code bad => ?_, fun code low high bad => ?_, fun code low high less => ?_, fun code => ?_, fun code => ?_,
    fun other => ?_⟩
  · rw [exec_portSetup_eq, State.serve_of_nextIs next dt (by simp [code]), portSetup_halt_refused bad]
    exact congrArg _ (refuse_answer .range (by omega))
  · rw [exec_portSetup_eq, State.serve_of_nextIs next dt (by simp [code]), portSetup_resume_refused ⟨low, high⟩ bad]
    exact congrArg _ (refuse_answer .range (by omega))
  · rw [exec_portSetup_eq, State.serve_of_nextIs next dt (by simp [code]), portSetup_accepted ⟨low, high⟩ less]
    have set : q.setup halt resume mask = { q with
        halt := halt, resume := resume, mask := mask, hold := hold, attn := decide (q.flags &&& mask ≠ 0) } := by
      rw [PortState.setup, waiting]
      rfl
    change Host.Outcome.next ((base.setPort p (q.setup halt resume mask)).replied p r .ok (packData [(8, halt), (8, resume),
      (16, mask.toNat), (8, q.commands.length), (1, bit (q.setup halt resume mask).hold)])) = _
    rw [set, waiting]
    rfl
  · rw [exec_flagsRead_eq, State.serve_of_nextIs next dt (by simp [code]), flagsRead_eq]
    rfl
  · rw [exec_flagsClear_eq, State.serve_of_nextIs next dt (by simp [code]), flagsClear_eq]
    rfl
  · rw [exec_unknownRequest_eq, State.serve_of_nextIs next dt (by simpa [knownCode] using other)]
    exact congrArg _ (refuse_answer .unknown (by omega))

end Sys2Proof.Machine
end

section
/-! SUPPORT. The requests on the cursor (R167, R168) and the readings of the tracker and of the service outcome (R173, R180). -/

namespace Sys2Proof.Machine

/-! ## CURSOR_SET (R167) -/

/-- Seven codes name a view. -/
theorem exists_viewOf {n : Nat} (below : n < 7) : ∃ v, viewOf n = some v := by
  interval_cases n <;> exact ⟨_, rfl⟩

section
variable {p : Port} {ps : Params} {s : State}

theorem cursorSet_view_refused (bad : field ps 0 3 = 7) : cursorSet p ps s = refuse s .range 1 := by
  unfold cursorSet
  simp only [bad, show viewOf 7 = none from rfl]

theorem cursorSet_cylinder_refused (view : field ps 0 3 ≠ 7) (bad : ∀ c : Cyl, field ps 3 4 ≠ c.num) :
    cursorSet p ps s = refuse s .range 2 := by
  have small := field_lt ps 0 3
  obtain ⟨v, named⟩ := exists_viewOf (n := field ps 0 3) (by omega)
  unfold cursorSet
  simp only [named, cylOf_eq_none bad]

theorem cursorSet_eq {view : View} {c : Cyl} (named : field ps 0 3 = viewCode view) (cyl : field ps 3 4 = c.num) :
    cursorSet p ps s = if field ps 7 4 < viewEntries view then
      served (s.setPort p { s.port p with cursor := ⟨view, c, field ps 7 4, decide (field ps 11 1 = 1)⟩ })
        (dataBytes [field ps 0 3, c.num, field ps 7 4, field ps 11 1, viewEntries view, s.plan.wrapCount])
    else refuse s .range 3 := by
  unfold cursorSet
  simp only [named, cyl, viewOf_viewCode, cylOf_num]

end

/-! ## CURSOR_READ (R168) -/

/-- The next cylinder, named by its number. -/
theorem nextCyl_eq {wrap : Nat} {c d : Cyl} (num : d.num = if c.num + 1 ≤ min wrap 8 then c.num + 1 else 1) :
    nextCyl wrap c = d := by
  rw [nextCyl]
  by_cases up : c.num + 1 ≤ min wrap 8
  · rw [if_pos up] at num
    rw [if_pos (by omega), ← num, cylOf_num]
    rfl
  · rw [if_neg up] at num
    obtain rfl : .c1 = d := Option.some.inj ((cylOf_num .c1).symm.trans (cylOf_eq_some.mpr num))
    split
    · have beyond : cylOf (c.num + 1) = none := cylOf_eq_none fun d => by
        have := Cyl.num_le d
        omega
      rw [beyond]
      rfl
    · rfl

theorem Cursor.moveOn_steps {k : Cursor} (wrap : Nat) (within : k.index < viewEntries k.view - 1) :
    k.moveOn wrap = { k with index := k.index + 1 } := if_pos (by omega)

theorem Cursor.moveOn_wraps {k : Cursor} (wrap : Nat) (last : viewEntries k.view - 1 ≤ k.index) :
    k.moveOn wrap = { k with index := 0, cyl := nextCyl wrap k.cyl } := if_neg (by omega)

/-- A read shows the entry at the cursor, and moves the cursor only if it steps. -/
theorem cursorRead_eq (p : Port) (ps : Params) (s : State) : cursorRead p ps s = served
    (if (s.port p).cursor.step then
      s.setPort p { s.port p with cursor := (s.port p).cursor.moveOn s.plan.wrapCount } else s)
    (s.entryAt p (s.port p).cursor) := rfl

/-! ## ANGLE_READ and SERVICE_READ (R173, R180) -/

theorem State.angleData_sync (s : State) : s.angleData 1 = packData
    [(3, syncCode s.tracker.sync), (1, bit (decide (s.tracker.sync = .coasting) && s.tracker.phaseHeld)), (4, 0),
      (16, s.tracker.cycles.toNat), (4, s.tracker.missedGaps), (4, s.tracker.phaseMisses)] :=
  packData_concat_zero [(3, syncCode s.tracker.sync), (1, bit (decide (s.tracker.sync = .coasting) && s.tracker.phaseHeld)),
    (4, 0), (16, s.tracker.cycles.toNat), (4, s.tracker.missedGaps), (4, s.tracker.phaseMisses)] 16

theorem serviceRead_eq (p : Port) (ps : Params) (s : State) : serviceRead p ps s = served s (packData
    [(4, s.service.record.cyl.elim 0 (·.num)), (2, serviceCode s.service.record.outcome), (2, 0),
      (3, faultCode s.service.record.fault), (5, 0), (16, s.service.record.energized)]) :=
  congrArg (served s) (packData_concat_zero
    [(4, s.service.record.cyl.elim 0 (·.num)), (2, serviceCode s.service.record.outcome), (2, 0),
      (3, faultCode s.service.record.fault), (5, 0), (16, s.service.record.energized)] 16)

/-- Settles O54: each request by the equation of its rule; a read that steps moves the cursor as `Cursor.moveOn_steps` and
`Cursor.moveOn_wraps` say. -/
theorem cursorAndReadRequests : Obligations.CursorAndReadRequests := by
  unfold Obligations.CursorAndReadRequests
  intro dt s p r rest next base f wrap k last cursorTo t held v
  have reads (code : r.code = 0x2B#8) : exec (.cursorRead dt) s =
      .next ((if k.step then cursorTo (k.moveOn wrap) else base).replied p r .ok (s.entryAt p k)) := by
    have cursor : ((s.taken dt p rest).port p).cursor = k := by simp [k]
    rw [exec_cursorRead_eq, State.serve_of_nextIs next dt (by simp [code]), cursorRead_eq, cursor]
    rfl
  refine ⟨fun code bad => ?view, fun code named bad => ?cylinder, fun code view c named cyl => ?set,
    fun code stays => ?stays, fun code steps within => ?within, fun code steps ends c num => ?wraps,
    fun code part => ?angle, fun code part => ?sync, fun code => ?service⟩
  case view =>
    rw [exec_cursorSet_eq, State.serve_of_nextIs next dt (by simp [code]), cursorSet_view_refused bad]
    exact congrArg _ (refuse_answer .range (by omega))
  case cylinder =>
    rw [exec_cursorSet_eq, State.serve_of_nextIs next dt (by simp [code]), cursorSet_cylinder_refused named bad]
    exact congrArg _ (refuse_answer .range (by omega))
  case set =>
    rw [exec_cursorSet_eq, State.serve_of_nextIs next dt (by simp [code]), cursorSet_eq named cyl]
    split
    · rfl
    · exact congrArg _ (refuse_answer .range (by omega))
  case stays => rw [reads code, stays, if_neg Bool.false_ne_true]
  case within => rw [reads code, if_pos steps, Cursor.moveOn_steps wrap within]
  case wraps => rw [reads code, if_pos steps, Cursor.moveOn_wraps wrap ends, nextCyl_eq num]
  case angle =>
    have part : field r.params 0 1 = 0 := part
    rw [exec_angleRead_eq, State.serve_of_nextIs next dt (by simp [code]), angleRead, part]
    refine ⟨base.angleWord, readAngle t.indexHeld (t.revAngle (s.now + dt)), rfl, fun known => ?_, fun unknown => ?_,
      fun synced => ?_, fun unsynced => ?_⟩
    · exact (State.angleWord_eq base).trans (if_pos known)
    · exact (State.angleWord_eq base).trans (if_neg unknown)
    · rw [(Tracker.indexHeld_iff t).mpr synced]
      rfl
    · rw [Bool.eq_false_iff.mpr (mt (Tracker.indexHeld_iff t).mp unsynced)]
      rfl
  case sync =>
    have part : field r.params 0 1 = 1 := part
    rw [exec_angleRead_eq, State.serve_of_nextIs next dt (by simp [code]), angleRead, part, State.angleData_sync]
    rfl
  case service =>
    rw [exec_serviceRead_eq, State.serve_of_nextIs next dt (by simp [code]), serviceRead_eq]
    simp only [v, State.taken_service]
    cases s.service.record.cyl <;> rfl

end Sys2Proof.Machine
end

section
/-! SUPPORT. SERVICE_PULSE and the two reports that end a service pulse (R175 to R179). -/

namespace Sys2Proof.Machine

/-! ## The tests of SERVICE_PULSE (R175) -/

/-- The first test that fails is the one that refuses, wherever it stands in the list. -/
theorem firstRefusal_eq_some {l : List (Bool × Result × Nat)} {i : Nat} {r : Result × Nat} (fails : l[i]? = some (false, r))
    (before : ∀ j x, j < i → l[j]? = some x → x.1 = true) : firstRefusal l = some r := by
  obtain ⟨inside, read⟩ := List.getElem?_eq_some_iff.mp fails
  have split : l = l.take i ++ (false, r) :: l.drop (i + 1) := by
    rw [← read, List.getElem_cons_drop, List.take_append_drop]
  rw [split]
  refine firstRefusal_some fun x mem => ?_
  obtain ⟨j, below, rfl⟩ := List.mem_take_iff_getElem.mp mem
  exact before j _ (by omega) (List.getElem?_eq_getElem _)

/-- The last test, for a number that is a cylinder's. -/
theorem State.serviceBankTest_iff {s : State} {n : Nat} (low : 1 ≤ n) (high : n ≤ 8) :
    ((cylOf n).elim false fun c => s.bankAtRest (s.plan.bankOf c)) = true ↔
      ∀ c : Cyl, c.num = n → BankAtRest s (s.plan.cylinder.get c).val.bank := by
  obtain ⟨c, rfl⟩ := exists_cyl low high
  rw [cylOf_num, Option.elim_some, State.bankAtRest_iff]
  refine ⟨fun rest d same => ?_, fun rest => rest c rfl⟩
  obtain rfl : c = d := Option.some.inj ((cylOf_num c).symm.trans (cylOf_eq_some.mpr same))
  exact rest

/-- The pulse that a SERVICE_PULSE starts. -/
theorem servicePulse_starts {x : Sense} {p : Port} {ps : Params} {s : State} {c : Cyl} {profile : ProfileIx}
    (cyl : cylOf (field ps 0 4) = some c) (named : profile.num = field ps 19 2)
    (passes : firstRefusal (s.serviceTests (field ps 0 4) (field ps 4 15) profile) = none) :
    servicePulse x p ps s = served (s.startService p c profile (field ps 4 15) x) (dataBytes [c.num, (s.plan.bankOf c).num]) := by
  unfold servicePulse
  simp only [← named, fourOf_num, passes, cyl]

theorem servicePulse_refused {x : Sense} {p : Port} {ps : Params} {s : State} {profile : ProfileIx} {r : Result × Nat}
    (named : profile.num = field ps 19 2)
    (fails : firstRefusal (s.serviceTests (field ps 0 4) (field ps 4 15) profile) = some r) :
    servicePulse x p ps s = refuse s r.1 r.2 := by
  unfold servicePulse
  simp only [← named, fourOf_num, fails]

/-! ## The start (R176) -/

/-- The state of a service pulse as its drive starts. -/
def State.serviceReady (s : State) (p : Port) (c : Cyl) (profile : ProfileIx) (duration : Nat) : State :=
  { s with
    service := { inProgress := some ⟨.driving, p, c, profile, duration, none⟩, record := ⟨some c, .none, none, 0⟩ }
    lanes := s.lanes.set c { s.lane c with injector := .driving }
    banks := s.banks.set (s.plan.bankOf c) { s.bank (s.plan.bankOf c) with
      state := .held, holder := some (.service c), recharge := .waiting } }

theorem State.startService_eq (s : State) (p : Port) (c : Cyl) (profile : ProfileIx) (duration : Nat) (x : Sense) :
    s.startService p c profile duration x =
      let b := s.plan.bankOf c
      let started := StartsDrive (s.serviceReady p c profile duration) b x c profile duration (.service c)
      if x.tr then started.onTrip b x else if x.pk then started.onPeak b x else started :=
  State.startDrive_eq (s.serviceReady p c profile duration) _ _ _ _ _ _

/-- The reply to the request may stand before what the drive meets at once. -/
theorem replied_startDrive (s : State) (p : Port) (r : Request) (d : Data) (b : Bank) (x : Sense) :
    (if x.tr then s.onTrip b x else if x.pk then s.onPeak b x else s).replied p r .ok d =
      if x.tr then (s.replied p r .ok d).onTrip b x else if x.pk then (s.replied p r .ok d).onPeak b x else s.replied p r .ok d := by
  split
  · exact (State.onTrip_answer s p _ b x).symm
  · split
    · exact (State.onPeak_answer s p _ b x).symm
    · rfl

/-- Settles O57: the eight tests in their order, the first that fails refusing; if none fails, the drive of
`State.startService_eq`. -/
theorem servicePulseStartsOneDrive : Obligations.ServicePulseStartsOneDrive := by
  unfold Obligations.ServicePulseStartsOneDrive
  intro dt x s p r rest profile next code count named n duration passes refusal
  let tests := (s.taken dt p rest).serviceTests n duration profile
  have reads : ∀ m, 1 ≤ m → m ≤ 8 → (∀ j, 1 ≤ j → j < m → passes j) →
      ∃ b, tests[m - 1]? = some (b, refusal m) ∧ (b = true ↔ passes m) := by
    intro m low high before
    interval_cases m
    · exact ⟨_, rfl, show (!s.service.inProgress.isSome) = true ↔ s.service.inProgress = none by simp⟩
    · exact ⟨_, rfl, Iff.rfl⟩
    · exact ⟨_, rfl, decide_eq_true_iff⟩
    · exact ⟨_, rfl, decide_eq_true_iff⟩
    · exact ⟨_, rfl, Iff.rfl⟩
    · exact ⟨_, rfl, decide_eq_true_iff⟩
    · exact ⟨_, rfl, State.noOpenRecord_iff (s.taken dt p rest)⟩
    · have bounds : 1 ≤ n ∧ n ≤ s.plan.count := before 3 (by omega) (by omega)
      exact ⟨_, rfl, State.serviceBankTest_iff (s := s.taken dt p rest) bounds.1 (bounds.2.trans count)⟩
  have read : exec (.servicePulse dt x) s = .next ((servicePulse x p r.params (s.taken dt p rest)).state.replied p r
      (servicePulse x p r.params (s.taken dt p rest)).result (servicePulse x p r.params (s.taken dt p rest)).data) := by
    rw [exec_servicePulse_eq, State.serve_of_nextIs next dt (by simp [code])]
  refine ⟨fun m low high before fails => ?_, fun all => ?_⟩
  · obtain ⟨b, test, iff⟩ := reads m low high before
    have refuses : firstRefusal tests = some (refusal m) := by
      refine firstRefusal_eq_some (i := m - 1) (Bool.eq_false_iff.mpr (mt iff.mp fails) ▸ test) fun j y earlier found => ?_
      obtain ⟨b', test', iff'⟩ := reads (j + 1) (by omega) (by omega) fun k pos below => before k pos (by omega)
      obtain rfl : y = (b', refusal (j + 1)) := Option.some.inj (found.symm.trans test')
      exact iff'.mpr (before (j + 1) (by omega) (by omega))
    have small : (refusal m).2 < 256 := by interval_cases m <;> simp [refusal]
    rw [read, servicePulse_refused named refuses, refuse_answer _ small]
  · have bounds : 1 ≤ n ∧ n ≤ s.plan.count := all 3 (by omega) (by omega)
    obtain ⟨c, num⟩ := exists_cyl bounds.1 (bounds.2.trans count)
    have none : firstRefusal tests = none := by
      refine firstRefusal_none.mpr fun y mem => ?_
      obtain ⟨j, found⟩ := List.getElem?_of_mem mem
      have below : j < 8 := (List.getElem?_eq_some_iff.mp found).1
      obtain ⟨b, test, iff⟩ := reads (j + 1) (by omega) (by omega) fun k pos earlier => all k pos (by omega)
      obtain rfl : y = (b, refusal (j + 1)) := Option.some.inj (found.symm.trans test)
      exact iff.mpr (all (j + 1) (by omega) (by omega))
    refine ⟨c, num, ?_⟩
    intro b started
    rw [exec_startDrive, read, servicePulse_starts (cylOf_eq_some.mpr num) named none, State.startService_eq]
    exact congrArg _ (replied_startDrive _ p r _ b x)

/-! ## The reports of its drive (R177, R179) -/

theorem exec_serviceDriveEnd (dt : Nat) (b : Bank) (s : State) :
    exec (.serviceDriveEnd dt b) s = .next ((s.advance dt).serviceTakesDriveEnd b) := rfl

theorem exec_serviceReleaseComplete (dt : Nat) (b : Bank) (s : State) :
    exec (.serviceReleaseComplete dt b) s = .next ((s.advance dt).serviceTakesRelease b) := rfl

section
variable {s : State} {b : Bank} {c : Cyl} {more : List CycleReport}

theorem State.serviceTakesDriveEnd_eq {cause : Cause} {early : Bool} {started ended : Nat}
    (reports : (s.mailOf b).toCycle = .driveEnd (.service c) cause early started ended :: more) :
    s.serviceTakesDriveEnd b = { s with
      mail := s.mail.set b { s.mailOf b with toCycle := more }
      service := s.service.driveEnded cause (ended - started)
      lanes := s.lanes.set c { s.lane c with injector := .releasing } } := by
  rw [State.serviceTakesDriveEnd, reports]
  dsimp only
  rw [State.popCycleReport_cons reports]
  rfl

/-- The release ends the service pulse in progress, and the dwell of its cylinder starts. -/
theorem State.serviceTakesRelease_eq {last : Option FaultKind} {moment : Nat} {v : ServicePulse} {r : ServiceResult}
    (reports : (s.mailOf b).toCycle = .release (.service c) last moment :: more) (current : s.service.inProgress = some v)
    (result : v.result = some r) (releases : (s.lane c).injector = .releasing) :
    s.serviceTakesRelease b = ({ s with
      mail := s.mail.set b { s.mailOf b with toCycle := more }
      lanes := s.lanes.set c { s.lane c with injector := .dwell (moment + s.plan.timing.val.minDwell) }
      service := ⟨none, serviceRecordOf v.cyl r last⟩ } : State).raise v.port .serviceDone := by
  have dwells : ({ s with mail := s.mail.set b { s.mailOf b with toCycle := more } } : State).startDwell c moment = { s with
      mail := s.mail.set b { s.mailOf b with toCycle := more }
      lanes := s.lanes.set c { s.lane c with injector := .dwell (moment + s.plan.timing.val.minDwell) } } :=
    congrArg (fun l : Lane => ({ s with
      mail := s.mail.set b { s.mailOf b with toCycle := more }, lanes := s.lanes.set c l } : State)) (if_pos releases)
  rw [State.serviceTakesRelease, reports]
  dsimp only
  rw [State.popCycleReport_cons reports, dwells]
  dsimp only
  rw [current]
  dsimp only
  rw [result]
  rfl

end

/-- Settles O58: `State.serviceTakesDriveEnd_eq` and `State.serviceTakesRelease_eq`, the record being that of R179 for the
cause. -/
theorem servicePulseEndsWithItsOutcome : Obligations.ServicePulseEndsWithItsOutcome := by
  unfold Obligations.ServicePulseEndsWithItsOutcome
  refine ⟨fun dt b s c cause early started ended more v reports current => ?_,
    fun dt b s c fault moment more v res reports current result releases => ?_⟩
  · rw [exec_serviceDriveEnd, State.serviceTakesDriveEnd_eq (s := s.advance dt) reports, ServiceFunction.driveEnded,
      State.advance_service, current]
    rfl
  · rw [exec_serviceReleaseComplete,
      State.serviceTakesRelease_eq (s := s.advance dt) reports current result releases]
    refine ⟨_, rfl, ?_, ?_⟩
    · cases cause : res.cause <;> simp only [serviceRecordOf, cause] <;> rfl
    · exact raised_congr ((raised_of_ports (t := { s.advance dt with mail := _, lanes := _, service := _ }) rfl).trans
        (raised_one _ _ _)) fun _ _ => Bool.false_or _

end Sys2Proof.Machine
end

section
/-! SUPPORT. The entries of the seven views, field by field (R159, R160, R169 to R171). -/

namespace Sys2Proof.Machine

/-! ## STAGE and PUB (R169) -/

section
variable {t : Tables} {p : Port} {c : Cyl} {i : SlotIx}

theorem Tables.stageEntry_some {u : Pulse} (staged : (t.staged p c).get i = some u) :
    t.stageEntry p c i = pulseEntry ⟨u, p, i⟩ 0 0 := by
  rw [Tables.stageEntry, staged, Option.elim_some]

theorem Tables.stageEntry_none (empty : (t.staged p c).get i = none) : t.stageEntry p c i = 0 := by
  rw [Tables.stageEntry, empty, Option.elim_none]

/-- The entry after the header is that of the position. -/
theorem Tables.pubView_position (t : Tables) (p : Port) (c : Cyl) (i : SlotIx) :
    t.pubView p c (i.num + 1) = t.pubEntry p c i := by
  rw [Tables.pubView, if_neg (Nat.succ_ne_zero _), Nat.add_sub_cancel, fourOf_num]

theorem Tables.pubHeader_absent (absent : (t.contribution p c).state = .absent) : t.pubHeader p c = 0 := if_pos absent

theorem Tables.pubEntry_absent (absent : (t.contribution p c).state = .absent) : t.pubEntry p c i = 0 := if_pos absent

theorem Tables.pubEntry_some {u : Pulse} (present : (t.contribution p c).state ≠ .absent)
    (published : (t.contribution p c).pulses.get i = some u) : t.pubEntry p c i =
      pulseEntry ⟨u, p, i⟩ (verdictCode ((t.contribution p c).verdicts.get i)) (t.active.get c).revision.toNat := by
  rw [Tables.pubEntry, if_neg present, published, Option.elim_some]

theorem Tables.pubEntry_none (empty : (t.contribution p c).pulses.get i = none) : t.pubEntry p c i = 0 := by
  rw [Tables.pubEntry]
  split
  · rfl
  · rw [empty, Option.elim_none]

/-- Four occupied bits packed as one field are four fields of one bit. -/
theorem packBits_occupied (q : Quad (Option Pulse)) (rest : List (Nat × Nat)) : packBits ((4, occupied q) :: rest) =
    packBits ((1, bit (q.get .i0).isSome) :: (1, bit (q.get .i1).isSome) :: (1, bit (q.get .i2).isSome) ::
      (1, bit (q.get .i3).isSome) :: rest) := by
  have four : occupied q = packBits [(1, bit (q.get .i0).isSome), (1, bit (q.get .i1).isSome), (1, bit (q.get .i2).isSome),
    (1, bit (q.get .i3).isSome)] := rfl
  simp only [four, packBits]
  omega

theorem Tables.pubHeader_present (present : (t.contribution p c).state ≠ .absent) : t.pubHeader p c =
    let k := t.contribution p c
    packData [(2, contribCode k.state), (2, 0), (1, bit (k.pulses.get .i0).isSome), (1, bit (k.pulses.get .i1).isSome),
      (1, bit (k.pulses.get .i2).isSome), (1, bit (k.pulses.get .i3).isSome), (8, k.age), (24, 0),
      (8, (t.active.get c).revision.toNat)] := by
  rw [Tables.pubHeader]
  simp only [if_neg present, packData]
  rw [packBits, packBits, packBits_occupied]
  rfl

end

/-! ## ACTIVE, ARMED and OUTCOME (R170) -/

theorem ActiveList.view_entry (l : ActiveList) (n : Nat) :
    l.view (n + 1) = (l.entries[n]?).elim 0 fun m => pulseEntry m 0 l.revision.toNat := if_neg (Nat.succ_ne_zero n)

/-- Position `n` of a record stands in its entries `1 + 2 * n` and `2 + 2 * n`. -/
theorem Record.view_pulse (r : Record) (n : Nat) :
    r.view (1 + 2 * n) = (r.pulses[n]?).elim 0 fun p => pulseEntry p.merged 0 r.stamp := by
  have position : (1 + 2 * n - 1) / 2 = n := by omega
  have odd : (1 + 2 * n) % 2 = 1 := by omega
  rw [Record.view, if_neg (by omega)]
  simp only [position, odd, if_true]

theorem Record.view_result (r : Record) (n : Nat) :
    r.view (2 + 2 * n) = (r.pulses[n]?).elim 0 fun p => resultEntry p n r.stamp := by
  have position : (2 + 2 * n - 1) / 2 = n := by omega
  have even : ¬(2 + 2 * n) % 2 = 1 := by omega
  rw [Record.view, if_neg (by omega)]
  simp only [position, even, if_false]

/-! ## FAULT (R171) -/

theorem CylinderFaults.entry_eq (f : CylinderFaults) (c : Cyl) : f.entry c = packData
    [(3, faultCode f.lastKind), (3, f.lastPulse.elim 0 kindCode), (1, bit f.isolated), (1, 0), (4, f.count), (4, c.num),
      (16, f.lastCycle.toNat)] :=
  packData_concat_zero [(3, faultCode f.lastKind), (3, f.lastPulse.elim 0 kindCode), (1, bit f.isolated), (1, 0), (4, f.count),
    (4, c.num), (16, f.lastCycle.toNat)] 16

/-- Settles O55: each view by the equations of its entries. -/
theorem entriesShowTheTables : Obligations.EntriesShowTheTables := by
  unfold Obligations.EntriesShowTheTables
  intro s p c i step at_ pulse revision entries f
  refine ⟨fun u staged => ?stage, fun empty => ?noStage, fun q view named => ?pub, rfl, fun n m found => ?active,
    fun n beyond => ?noActive, fun view record shown => ?record, ?fault⟩
  case stage =>
    change s.tables.stageEntry p c (fourOf i.num) = _
    rw [fourOf_num, Tables.stageEntry_some staged]
    rfl
  case noStage =>
    change s.tables.stageEntry p c (fourOf i.num) = _
    rw [fourOf_num, Tables.stageEntry_none empty]
  case pub =>
    intro k holds
    have entry (n : Nat) : at_ view n = s.tables.pubView q c n := by obtain ⟨rfl, rfl⟩ | ⟨rfl, rfl⟩ := named <;> rfl
    refine ⟨fun absent => ⟨?_, ?_⟩, fun present => ?_, fun present u published => ?_, fun empty => ?_⟩
    · exact (entry 0).trans (Tables.pubHeader_absent absent)
    · rw [entry, Tables.pubView_position, Tables.pubEntry_absent absent]
    · exact (entry 0).trans (Tables.pubHeader_present present)
    · rw [entry, Tables.pubView_position, Tables.pubEntry_some present published]
      rfl
    · rw [entry, Tables.pubView_position, Tables.pubEntry_none empty]
  case active =>
    change (s.tables.active.get c).view (n + 1) = _
    rw [ActiveList.view_entry, found]
    rfl
  case noActive =>
    change (s.tables.active.get c).view (n + 1) = _
    rw [ActiveList.view_entry, List.getElem?_eq_none beyond]
    rfl
  case record =>
    have entry (n : Nat) : at_ view n = recordView record n := by obtain ⟨rfl, rfl⟩ | ⟨rfl, rfl⟩ := shown <;> rfl
    refine ⟨fun none n => ?_, fun r some => ?_⟩
    · rw [entry, none]
      rfl
    · have entry (n : Nat) : at_ view n = r.view n := by
        rw [entry, some]
        rfl
      refine ⟨entry 0, fun n u found => ⟨?_, ?_⟩, fun n beyond => ⟨?_, ?_⟩⟩
      · rw [entry, Record.view_pulse, found]
        rfl
      · rw [entry, Record.view_result, found]
        rfl
      · rw [entry, Record.view_pulse, List.getElem?_eq_none beyond]
        rfl
      · rw [entry, Record.view_result, List.getElem?_eq_none beyond]
        rfl
  case fault =>
    change f.entry c = _
    rw [CylinderFaults.entry_eq]
    cases f.lastPulse <;> rfl

end Sys2Proof.Machine
end
